-- ==== Sys2Proof/Word.lean ====
section
/-! DEFINITION. The word types: every register, register address and data byte is 8 bits, a frequency
or a tick is 16 bits, a command is one 48-bit word (30_encoding.md R60, R62). All are unsigned (00_scope.md R9). -/

namespace Sys2Proof

/-- A register address, a device address or a data byte (20_memory.md R40, R41). -/
abbrev Byte := BitVec 8

/-- A frequency or a tick value (10_state.md R21, 42_duty.md R130). -/
abbrev Half := BitVec 16

/-- One command (30_encoding.md R60). -/
abbrev Word48 := BitVec 48

end Sys2Proof
end

