-- ==== Sys2Proof/Syntax.lean ====
section
/-! DEFINITION. The nine commands (30_encoding.md R66), the reasons a word is no command (R64, R65), and
the assembler's lines (R69, R70). -/

namespace Sys2Proof

/-- One constructor per row of the opcode table. Each operand has exactly its field's width (R62). -/
inductive Instr where
  | cfg (addr : Byte) (freq : Half)
  | init
  | rst
  | setfreq (freq : Half)
  | setticks (ch : Byte) (on off : Half)
  | setpct (ch duty : Byte)
  | setlvl (ch : Byte) (ticks : Half) (inv : Bool)
  | rdreg (reg : Byte)
  | wrreg (reg val : Byte)
  deriving DecidableEq, Repr

/-- Why a word selects no command; each gives the status REFUSED (R64, R65). -/
inductive DecodeError where
  /-- `op` is 0x0 or 0xA to 0xF (R65). -/
  | unassignedOp
  /-- A reserved bit of the format is not 0 (R64). -/
  | reservedBits
  deriving DecidableEq, Repr

/-- The names an assembler line may begin with: the nine mnemonics (R69) and two pseudo-instructions
with names of their own (R70). -/
inductive Mnemonic where
  | cfg | init | rst | setfreq | setticks | setpct | setlvl | rdreg | wrreg
  | fullon | fulloff
  deriving DecidableEq, Repr

/-- An assembler line: a mnemonic and its operands in written order, as plain numbers (R69). -/
structure AsmLine where
  mnemonic : Mnemonic
  operands : List Nat
  deriving DecidableEq, Repr

/-- How a command is written, with every operand given (R69). -/
def Instr.toAsm : Instr → AsmLine
  | .cfg addr freq        => ⟨.cfg, [addr.toNat, freq.toNat]⟩
  | .init                 => ⟨.init, []⟩
  | .rst                  => ⟨.rst, []⟩
  | .setfreq freq         => ⟨.setfreq, [freq.toNat]⟩
  | .setticks ch on off   => ⟨.setticks, [ch.toNat, on.toNat, off.toNat]⟩
  | .setpct ch duty       => ⟨.setpct, [ch.toNat, duty.toNat]⟩
  | .setlvl ch ticks inv  => ⟨.setlvl, [ch.toNat, ticks.toNat, inv.toNat]⟩
  | .rdreg reg            => ⟨.rdreg, [reg.toNat]⟩
  | .wrreg reg val        => ⟨.wrreg, [reg.toNat, val.toNat]⟩

end Sys2Proof
end

