-- ==== Sys2Proof/Decode.lean ====
section
/-! DEFINITION. Decoding a 48-bit command word, total, rejecting by name (30_encoding.md R60 to R68), and
after it the encoder, written from the formats of R61. -/

namespace Sys2Proof

/-! ## Fields of a word (R60) -/

def opOf (w : Word48) : Nat := (w.extractLsb' 44 4).toNat
def fieldA (w : Word48) : Byte := w.extractLsb' 32 8
def fieldB (w : Word48) : Half := w.extractLsb' 16 16
def fieldC (w : Word48) : Half := w.extractLsb' 0 16
def fieldReg (w : Word48) : Byte := w.extractLsb' 8 8
def fieldLow (w : Word48) : Byte := w.extractLsb' 0 8
def fieldInv (w : Word48) : Bool := w.getLsbD 16

/-! ## The opcode map (R61, R66) -/

/-- The mask of the format of an assigned `op`, over `op` and the format's reserved bits (R61); none for
an unassigned `op` (R65). -/
def maskOf (op : Nat) : Option Word48 :=
  match op with
  | 1 => some 0xFF00FFFF0000#48
  | 2 => some 0xFFFFFFFFFFFF#48
  | 3 => some 0xFFFFFFFFFFFF#48
  | 4 => some 0xFFFFFFFF0000#48
  | 5 => some 0xFF0000000000#48
  | 6 => some 0xFF00FFFFFF00#48
  | 7 => some 0xFF00FFFE0000#48
  | 8 => some 0xFFFFFFFF00FF#48
  | 9 => some 0xFFFFFFFF0000#48
  | _ => none

/-- `match = op << 44` (R61). -/
def matchOf (op : Nat) : Word48 := BitVec.ofNat 48 (op * 2 ^ 44)

/-- The command of an assigned `op` with its operands taken from their fields unchanged (R62). -/
def operandsOf (op : Nat) (w : Word48) : Option Instr :=
  match op with
  | 1 => some (.cfg (fieldA w) (fieldC w))
  | 2 => some .init
  | 3 => some .rst
  | 4 => some (.setfreq (fieldC w))
  | 5 => some (.setticks (fieldA w) (fieldB w) (fieldC w))
  | 6 => some (.setpct (fieldA w) (fieldLow w))
  | 7 => some (.setlvl (fieldA w) (fieldC w) (fieldInv w))
  | 8 => some (.rdreg (fieldReg w))
  | 9 => some (.wrreg (fieldReg w) (fieldLow w))
  | _ => none

/-- Steps 1 and 2 of the decode order (R67): first `op`, then the reserved bits. Step 3, the channel, is
the command's own (42_duty.md R132). -/
def decode (w : Word48) : Except DecodeError Instr :=
  match maskOf (opOf w), operandsOf (opOf w) w with
  | some mask, some i => if w &&& mask = matchOf (opOf w) then .ok i else .error .reservedBits
  | _, _ => .error .unassignedOp

/-! ## Encoding (R60, R61, R66) -/

/-- A field's value at its place, zero-extended (R62). -/
def placed {n : Nat} (v : BitVec n) (low : Nat) : Word48 := v.setWidth 48 <<< low

/-- The word of a command: its match, and each field at its lowest bit in the format. -/
def encode : Instr → Word48
  | .cfg addr freq        => 0x100000000000#48 ||| placed addr 32 ||| placed freq 0
  | .init                 => 0x200000000000#48
  | .rst                  => 0x300000000000#48
  | .setfreq freq         => 0x400000000000#48 ||| placed freq 0
  | .setticks ch on off   => 0x500000000000#48 ||| placed ch 32 ||| placed on 16 ||| placed off 0
  | .setpct ch duty       => 0x600000000000#48 ||| placed ch 32 ||| placed duty 0
  | .setlvl ch ticks inv  =>
    0x700000000000#48 ||| placed ch 32 ||| placed (BitVec.ofBool inv) 16 ||| placed ticks 0
  | .rdreg reg            => 0x800000000000#48 ||| placed reg 8
  | .wrreg reg val        => 0x900000000000#48 ||| placed reg 8 ||| placed val 0

/-! ## The table's numbering -/

/-- A word given by the number of its bits and their value, bit 0 the least significant (00_scope.md R9);
the bits above `nbits` are 0 (log 13). -/
def tableWord (nbits w : Nat) : Word48 := BitVec.ofNat 48 (w % 2 ^ nbits)

/-- What the decoder reads from a row's bits. -/
def decodeTableWord (nbits w : Nat) : Option Instr :=
  match decode (tableWord nbits w) with
  | .ok i => some i
  | .error _ => none

end Sys2Proof
end

