-- ==== Sys2Proof/Config.lean ====
section
/-! DEFINITION. The fixed constants of 00_scope.md R7, the register map of 20_memory.md R42, the four
parameters of 00_scope.md R8, and the one free value: what the transport answers (10_state.md R29). -/

namespace Sys2Proof.Config

/-! ## Constants (00_scope.md R7) -/

def fOsc : Nat := 25000000
def steps : Nat := 4096
def minFreq : Nat := 24
def maxFreq : Nat := 1526
def numChannels : Nat := 16
def tickMax : Nat := 4095
def sentinel : Half := 4096#16
def defaultAddr : Byte := 0x40#8
def defaultFreq : Half := 50#16
def modeReset : Byte := 0x80#8
def modeSleep : Byte := 0x10#8
def modeAiRestart : Byte := 0xA0#8
def resetDelayMs : BitVec 32 := 10#32
def prescaleSettleMs : BitVec 32 := 5#32

/-! ## The chip's register map (20_memory.md R42) -/

def mode1 : Byte := 0x00#8
def prescale : Byte := 0xFE#8
def led0OnL : Byte := 0x06#8

/-! ## Parameters (00_scope.md R8) -/

/-- PRESCALE_FN: any function from the 1503 clamped frequencies 24..1526 to the wide prescale value.
`tabulated v` is the function whose value at `fc` is entry `fc - 24` of `v`, so every such function is
one of these values and the parameter stays plain data (log 6). -/
inductive PrescaleFn where
  | prescaleWide
  | tabulated (values : Vector Nat 1503)
  deriving DecidableEq, Repr

/-- PRESCALE_NARROW (41_frequency.md R105). -/
inductive PrescaleNarrow where
  | wrap
  | saturate
  deriving DecidableEq, Repr

/-- RESUME_MODE (41_frequency.md R107). -/
inductive ResumeMode where
  | orOld
  | literal
  deriving DecidableEq, Repr

/-- CHANNEL_POLICY (42_duty.md R132). -/
inductive ChannelPolicy where
  | refuse
  | wrap8
  deriving DecidableEq, Repr

structure Params where
  prescaleFn    : PrescaleFn
  narrow        : PrescaleNarrow
  resume        : ResumeMode
  channelPolicy : ChannelPolicy
  deriving DecidableEq, Repr

/-- The defaults of 00_scope.md R8 (92_eei_decisions.md D3, D4, D6, D7). -/
def defaultParams : Params where
  prescaleFn    := .prescaleWide
  narrow        := .wrap
  resume        := .orOld
  channelPolicy := .refuse

/-! ## The free value -/

/-- The transport's answer to one request (10_state.md R29). The byte of a success is what a read
returns; for a write it has no meaning and nothing reads it. -/
inductive Answer where
  | success (byte : Byte)
  | failure
  deriving DecidableEq, Repr, Inhabited

/-- What the transport answers to the `n`-th request of the run where the state's `answers` does not
fix it: a free draw under no law (10_state.md R29, 92_eei_decisions.md D16; log 2). -/
opaque freeAnswer : Nat → Answer

end Sys2Proof.Config
end

