-- ==== Sys2Proof/Machine/State.lean ====
section
/-! DEFINITION. The state of PSDE (10_state.md), the trace it issues (00_scope.md R12, R13), the outcomes it
reports (10_state.md R31), its state at power-on (R32), and the model's reasons to stop. -/

namespace Sys2Proof.Machine

open Sys2Proof.Config

/-! ## Requests and the trace -/

/-- What PSDE asks of the transport or the clock (00_scope.md R12, 10_state.md R28, R30). -/
inductive Request where
  /-- `MemRead(reg, 1)` -/
  | read (reg : Byte)
  /-- `MemWrite(reg, 1, val)` -/
  | write (reg val : Byte)
  /-- `writeBlock(ADDR, start, length, data, atomic)` -/
  | block (start length : Byte) (data : List Byte) (atomic : Bool)
  /-- `Delay(ms)`, to the clock -/
  | delay (ms : BitVec 32)
  deriving DecidableEq, Repr

/-- How a request completed (00_scope.md R13): `failed` is the trailing `!`. -/
inductive Completion where
  | done
  | value (v : Byte)
  | failed
  deriving DecidableEq, Repr

/-- One record of a trace. Every record carries the device address (00_scope.md R13). -/
structure Record where
  device     : Byte
  request    : Request
  completion : Completion
  deriving DecidableEq, Repr

/-- The status of a command (10_state.md R31). -/
inductive Status where
  | ok
  | refused
  | transportFailed
  deriving DecidableEq, Repr

/-- What one command showed: its trace in issue order, its status, the result byte of an RDREG, and how
long (at least, in ms) the host had waited before presenting it because 70_reset_and_hazards.md R210
obliges it to (log 7, log 8). -/
structure Report where
  trace    : List Record
  status   : Status
  result   : Option Byte
  hostWait : Nat
  deriving DecidableEq, Repr

/-! ## The positions of a running command -/

/-- The byte a single-byte write sends: a constant, a latch, or a mode value computed from `oldMode`. -/
inductive ByteSource where
  | literal (v : Byte)
  | presc
  | oldMode
  | sleepMode
  | resumeMode
  deriving DecidableEq, Repr

/-- One line of a command's rule. A running command is the list of the lines still to be done (log 1). -/
inductive Action where
  /-- `ADDR <- addr` (40_lifecycle.md R80) -/
  | loadAddr (addr : Byte)
  /-- `FREQ <- freq`, verbatim (R80) -/
  | loadFreq (freq : Half)
  /-- `fc <- clamp_freq(f); FREQ <- fc`, for an operand, or for the stored FREQ when there is none
  (41_frequency.md R108 step 1, 40_lifecycle.md R82) -/
  | clampFreq (operand : Option Half)
  /-- `presc <- prescale_byte(FREQ)` (R108 step 2) -/
  | computePresc
  /-- `oldMode <- MemRead(MODE1, 1)` (R108 step 3) -/
  | readMode
  /-- `result <- MemRead(reg, 1)` (43_register_access.md R170) -/
  | readReg (reg : Byte)
  /-- `MemWrite(reg, 1, v)` -/
  | writeReg (reg : Byte) (source : ByteSource)
  /-- `MemWrite(start, 4, data)` (42_duty.md R133) -/
  | writeBlock (start : Byte) (data : List Byte)
  /-- `Delay(ms)` -/
  | delay (ms : BitVec 32)
  deriving DecidableEq, Repr

/-! ## The state -/

structure State where
  /-- ADDR (10_state.md R20). -/
  addr : Byte
  /-- FREQ (R21). -/
  freq : Half
  /-- 1 from the moment a command is accepted until its status is returned (R26). -/
  busy : Bool
  /-- The MODE1 value read by SETFREQ step 3 (R26). -/
  oldMode : Byte
  /-- The prescaler byte computed at SETFREQ step 2 (R26). -/
  presc : Byte
  /-- The index of the next transaction in the running command's trace (R24, R26). -/
  index : Nat
  /-- What the running command has still to do; the model's form of its position (log 1). -/
  pending : List Action
  /-- The trace of the running command so far, in issue order (00_scope.md R15). -/
  trace : List Record
  /-- The byte RDREG has read and not yet returned on the result port (10_state.md R31). -/
  result : Option Byte
  /-- Every outcome the result port has delivered with the trace behind it, newest first
  (60_exceptions.md R185; log 7). -/
  history : List Report
  /-- The command words the host presents, in order; the first is on the command port (10_state.md R24,
  R27; log 5). -/
  commands : List Word48
  /-- The transport's next answers, where the outside world has fixed them (log 2). -/
  answers : List Answer
  /-- How many requests the transport has answered; the argument of the free value (log 2). -/
  draws : Nat
  /-- How many more requests the transport answers before it falls silent; none: it answers every one
  (93_implementation_defined.md item 17; log 3). -/
  silentAfter : Option Nat
  /-- The host owes the wait of 70_reset_and_hazards.md R210; the debt names no device (log 8). -/
  settleOwed : Bool
  /-- The parameters of 00_scope.md R8; no command writes them (log 6). -/
  params : Params
  deriving DecidableEq, Repr

/-- Power-on (10_state.md R32, 70_reset_and_hazards.md R218): ADDR = 0x40, FREQ = 50, idle, nothing issued.
The latches' values are a DESIGN CHOICE (log 4), and so are those of the model's own fields (log 2, 3, 5, 8). -/
def State.reset : State where
  addr        := defaultAddr
  freq        := defaultFreq
  busy        := false
  oldMode     := 0x00#8
  presc       := 0x00#8
  index       := 0
  pending     := []
  trace       := []
  result      := none
  history     := []
  commands    := []
  answers     := []
  draws       := 0
  silentAfter := none
  settleOwed  := false
  params      := defaultParams

/-! ## Reasons to stop -/

/-- The one fault. PSDE's own abnormal outcomes, REFUSED and TRANSPORT_FAILED, are statuses of a next
state (60_exceptions.md R184), not faults. -/
inductive Fault where
  /-- A command that waits for an answer the transport never gives is stuck
  (93_implementation_defined.md item 17). Raised by any command that issues a request to the transport.
  Safe: nothing is claimed of the state it would be in (log 3). -/
  | transportSilent
  deriving DecidableEq, Repr

/-- The model's refusals. No meaning and no step answers with one. -/
inductive Refusal where
  /-- An instruction without a meaning in the model; raised only by an arm of exec that names it.
  Safe: nothing is claimed of it. -/
  | notModelled (mnemonic : String)
  deriving DecidableEq, Repr

end Sys2Proof.Machine
end

