-- ==== Sys2Proof/Machine/Flags.lean ====
section
/-! DEFINITION. PSDE has no flags and no condition codes (10_state.md R25); the only outcome of a command is
its status. Here: the status codes (60_exceptions.md R180, R181), and what a trace says about the wait the
host owes (70_reset_and_hazards.md R210). -/

namespace Sys2Proof.Machine

open Sys2Proof.Config

/-- The status codes (60_exceptions.md R180, R181). -/
def Status.code : Status → Nat
  | .ok              => 0
  | .refused         => 1
  | .transportFailed => 2

/-- A single-byte write to MODE1 with bit 7, the reset trigger, set. -/
def Request.isResetTrigger : Request → Bool
  | .write reg val => reg == mode1 && val.getLsbD 7
  | _ => false

/-- After a command whose whole trace is a reset-trigger write, with no delay behind it, the host owes the
10 ms wait (R210; log 8): so after WRREG, and after an RST or INIT whose reset write failed. -/
def leavesSettleOwed : List Record → Bool
  | [r] => r.request.isResetTrigger
  | _   => false

end Sys2Proof.Machine
end

