-- ==== Sys2Proof/Machine/Operands.lean ====
section
/-! DEFINITION. The combinational datapaths: the frequency clamp and the fixed-point prescaler
(41_frequency.md R100 to R107), the channel address and the duty encoder (42_duty.md R130 to R138). -/

namespace Sys2Proof.Machine

open Sys2Proof.Config

/-! ## Prescaler -/

/-- `clamp_freq(f) = min(max(f, 24), 1526)` (R100). -/
def clampFreq (f : Half) : Half := BitVec.ofNat 16 (min (max f.toNat minFreq) maxFreq)

/-- `K = (F_OSC * 100) div STEPS` (R101). -/
def scaledOsc : Nat := fOsc * 100 / steps

/-- `q = K div fc` (R102). -/
def hundredths (fc : Nat) : Nat := scaledOsc / fc

/-- `prescale_wide(fc)`, the default of PRESCALE_FN, in the source's order of operations (R103). For the
clamped frequencies no subtraction goes below 0 (60_exceptions.md R182). -/
def prescaleWide (fc : Nat) : Nat :=
  let q := hundredths fc
  let r := q * 10 / 9
  let t := r - 100 + 50
  t / 100

/-- PRESCALE_FN at a clamped frequency (00_scope.md R8). -/
def prescaleValue (fn : PrescaleFn) (fc : Nat) : Nat :=
  match fn with
  | .prescaleWide     => prescaleWide fc
  | .tabulated values => values[fc - minFreq]?.getD 0

/-- `prescale_byte(fc)` (R105). -/
def prescaleByte (p : Params) (fc : Nat) : Byte :=
  match p.narrow with
  | .wrap     => BitVec.ofNat 8 (prescaleValue p.prescaleFn fc % 256)
  | .saturate => BitVec.ofNat 8 (min (prescaleValue p.prescaleFn fc) 255)

/-- `sleep_mode(m) = m OR 0x10` (R106). -/
def sleepMode (m : Byte) : Byte := m ||| modeSleep

/-- `resume_mode(m)` (R107). -/
def resumeMode (p : Params) (m : Byte) : Byte :=
  match p.resume with
  | .orOld   => m ||| modeAiRestart
  | .literal => modeAiRestart

/-! ## Duty encoder -/

/-- `lo(v) = v[7:0]` (R130). -/
def lo (v : Half) : Byte := v.extractLsb' 0 8

/-- `hi(v) = v[15:8]` (R130). -/
def hi (v : Half) : Byte := v.extractLsb' 8 8

/-- `base(ch) = 6 + 4*ch` (R131), taken mod 256, which changes nothing for a channel of 0 to 15 and is
the rule of WRAP8 above (R132). -/
def channelBase (ch : Byte) : Byte := BitVec.ofNat 8 (led0OnL.toNat + 4 * ch.toNat)

/-- The data bytes of `write_pair` (R133): on-low, on-high, off-low, off-high. -/
def pairBytes (on off : Half) : List Byte := [lo on, hi on, lo off, hi off]

/-- `percent_to_off(d)`, with an exact product (R136). -/
def percentToOff (d : Byte) : Half :=
  if d = 0#8 then 0#16 else BitVec.ofNat 16 (steps * d.toNat / 255 - 1)

/-- FULL_ON and FULL_OFF (R134). -/
def fullOn : Half × Half := (sentinel, 0#16)
def fullOff : Half × Half := (0#16, sentinel)

/-- `level_encode(ticks, inv)` as (on, off) (R138). -/
def levelEncode (ticks : Half) (inv : Bool) : Half × Half :=
  let tc := min ticks.toNat tickMax
  if inv then
    if tc = 0 then fullOn
    else if tc = tickMax then fullOff
    else (0#16, BitVec.ofNat 16 (tickMax - tc))
  else
    if tc = tickMax then fullOn
    else if tc = 0 then fullOff
    else (0#16, BitVec.ofNat 16 tc)

end Sys2Proof.Machine
end

