-- ==== Sys2Proof/Machine/Ops.lean ====
section
/-! DEFINITION. The shared operations: issuing requests to the transport and the clock, doing one line of a
command's rule, running a command to its end, ending it with a status (the whole of PSDE's exception
handling, 60_exceptions.md R184), and taking a command from the port. -/

namespace Sys2Proof.Machine

open Sys2Proof.Config

/-! ## Writing one register, latch or position -/

def State.setAddr (s : State) (addr : Byte) : State := { s with addr := addr }
def State.setFreq (s : State) (freq : Half) : State := { s with freq := freq }
def State.setOldMode (s : State) (m : Byte) : State := { s with oldMode := m }
def State.setPresc (s : State) (p : Byte) : State := { s with presc := p }
def State.setResult (s : State) (v : Byte) : State := { s with result := some v }
def State.setPending (s : State) (rest : List Action) : State := { s with pending := rest }

/-! ## The transport's answers (10_state.md R29) -/

/-- The answer to the `k`-th request from here: the one the outside world has fixed, else a free draw. -/
def State.reply (s : State) (k : Nat) : Answer := s.answers[k]?.getD (freeAnswer (s.draws + k))

/-- One answer has been taken. -/
def State.takeAnswer (s : State) : State := { s with answers := s.answers.tail, draws := s.draws + 1 }

/-! ## Issuing (00_scope.md R12, 20_memory.md R51) -/

/-- The request and how it completed go into the trace, with ADDR (10_state.md R29). -/
def State.record (s : State) (r : Request) (c : Completion) : State :=
  { s with trace := s.trace ++ [⟨s.addr, r, c⟩], index := s.index + 1 }

/-- A write of one byte or of a block; `error` is the state after a failure. -/
def State.send (s : State) (r : Request) : Except State State :=
  match s.reply 0 with
  | .success _ => .ok (s.takeAnswer.record r .done)
  | .failure   => .error (s.takeAnswer.record r .failed)

/-- A read of one byte; `error` is the state after a failure. -/
def State.fetchByte (s : State) (reg : Byte) : Except State (Byte × State) :=
  match s.reply 0 with
  | .success v => .ok (v, s.takeAnswer.record (.read reg) (.value v))
  | .failure   => .error (s.takeAnswer.record (.read reg) .failed)

/-- The byte a single-byte write sends. -/
def State.sourceByte (s : State) : ByteSource → Byte
  | .literal v  => v
  | .presc      => s.presc
  | .oldMode    => s.oldMode
  | .sleepMode  => sleepMode s.oldMode
  | .resumeMode => resumeMode s.params s.oldMode

/-- One line of a command's rule; `error` is the state after a failed transaction. -/
def State.perform (s : State) : Action → Except State State
  | .loadAddr addr => .ok (s.setAddr addr)
  | .loadFreq freq => .ok (s.setFreq freq)
  | .clampFreq operand => .ok (s.setFreq (clampFreq (operand.getD s.freq)))
  | .computePresc => .ok (s.setPresc (prescaleByte s.params s.freq.toNat))
  | .readMode =>
    match s.fetchByte mode1 with
    | .ok (v, t) => .ok (t.setOldMode v)
    | .error t => .error t
  | .readReg reg =>
    match s.fetchByte reg with
    | .ok (v, t) => .ok (t.setResult v)
    | .error t => .error t
  | .writeReg reg source => s.send (.write reg (s.sourceByte source))
  | .writeBlock start data => s.send (.block start (BitVec.ofNat 8 data.length) data true)
  | .delay ms => .ok (s.record (.delay ms) .done)

/-! ## Beginning and ending a command -/

/-- A command is accepted: busy, nothing issued yet (10_state.md R26). -/
def State.start (s : State) (body : List Action) : State :=
  { s with busy := true, index := 0, pending := body, trace := [], result := none }

/-- The wait the host has made before a command with this trace (70_reset_and_hazards.md R210; log 8). DESIGN CHOICE
(log 8): the debt names no device, so after a CFG to another ADDR the wait comes before a command to that device. -/
def State.hostWait (s : State) (trace : List Record) : Nat :=
  if s.settleOwed && !trace.isEmpty then resetDelayMs.toNat else 0

/-- The command ends: the status, and the byte of a read, go out on the result port and PSDE is idle
(10_state.md R31, 60_exceptions.md R184). No result byte goes out with an abnormal status (43_register_access.md
R170). Register writes already made stay (60_exceptions.md R181). The first command that issues anything pays the
host's owed wait, whichever device its ADDR names (DESIGN CHOICE, log 8). -/
def State.finish (s : State) (status : Status) : State :=
  { s with
    busy := false
    index := 0
    pending := []
    trace := []
    result := none
    history := ⟨s.trace, status, if status = .ok then s.result else none, s.hostWait s.trace⟩ :: s.history
    settleOwed := if s.trace.isEmpty then s.settleOwed else leavesSettleOwed s.trace }

/-- REFUSED: no transaction, no register written (60_exceptions.md R180). -/
def State.refuse (s : State) : State := (s.start []).finish .refused

/-! ## Running a command -/

/-- The rest of a command, line by line; the first failed transaction ends it with TRANSPORT_FAILED
(60_exceptions.md R181). -/
def State.drive (s : State) : List Action → State
  | [] => s.finish .ok
  | a :: rest =>
    match (s.setPending rest).perform a with
    | .ok t => t.drive rest
    | .error t => t.finish .transportFailed

/-- One line of the running command, or its end: the machine at the grain of one transaction (10_state.md
R24). `drive` is this, repeated until the command has ended. -/
def State.advance (s : State) : State :=
  match s.pending with
  | [] => s.finish .ok
  | a :: rest =>
    match (s.setPending rest).perform a with
    | .ok t => t
    | .error t => t.finish .transportFailed

/-- `s` is where a command is taken up and `t` is where it ends if every request is answered. If the
transport falls silent before its last request, the command is stuck (93_implementation_defined.md item 17). -/
def State.answered (s t : State) : Host.Outcome State Fault Refusal :=
  match s.silentAfter with
  | none => .next t
  | some n =>
    if t.draws - s.draws ≤ n then .next { t with silentAfter := some (n - (t.draws - s.draws)) }
    else .fault .transportSilent

/-- A command whose rule is `body`, from its acceptance to its status. -/
def State.run (s : State) (body : List Action) : Host.Outcome State Fault Refusal :=
  s.answered ((s.start body).drive body)

/-- A command in flight, to its status. -/
def State.resume (s : State) : Host.Outcome State Fault Refusal :=
  s.answered (s.drive s.pending)

/-! ## The command port (10_state.md R27) -/

/-- The word on the port and the state without it; none while a command runs or nothing is presented. -/
def State.takeCommand (s : State) : Option (Word48 × State) :=
  if s.busy then none
  else match s.commands with
    | [] => none
    | w :: rest => some (w, { s with commands := rest })

/-- The word stands on the port of an idle PSDE; the rest of the stream follows it. Presenting to a busy PSDE is no
move the spec gives the host (10_state.md R27, 92_eei_decisions.md D25): there, as a DESIGN CHOICE (log 5), `busy` is
cleared, so the command that was running is dropped when the word is taken, with no report of it. -/
def State.present (s : State) (w : Word48) : State := { s with busy := false, commands := w :: s.commands }

end Sys2Proof.Machine
end

