-- ==== Sys2Proof/Machine/Duty.lean ====
section
/-! DEFINITION. SETTICKS, SETPCT and SETLVL (42_duty.md). -/

namespace Sys2Proof.Machine

open Sys2Proof.Config

/-- The channel is refused: above 15 under CHANNEL_POLICY = REFUSE (R132). -/
def channelRefused (p : Params) (ch : Byte) : Bool :=
  decide (p.channelPolicy = .refuse) && decide (numChannels ≤ ch.toNat)

/-- `write_pair(ch, on, off)` as a command, behind the channel check (R132, R133). -/
def State.runPair (s : State) (ch : Byte) (on off : Half) : Host.Outcome State Fault Refusal :=
  if channelRefused s.params ch then .next s.refuse
  else s.run [.writeBlock (channelBase ch) (pairBytes on off)]

/-- SETTICKS: the raw pair, neither clamped nor masked (R135). -/
def execSetticks (ch : Byte) (on off : Half) (s : State) : Host.Outcome State Fault Refusal :=
  s.runPair ch on off

/-- SETPCT: on is always 0 (R137). -/
def execSetpct (ch duty : Byte) (s : State) : Host.Outcome State Fault Refusal :=
  s.runPair ch 0#16 (percentToOff duty)

/-- SETLVL (R140). -/
def execSetlvl (ch : Byte) (ticks : Half) (inv : Bool) (s : State) : Host.Outcome State Fault Refusal :=
  s.runPair ch (levelEncode ticks inv).1 (levelEncode ticks inv).2

end Sys2Proof.Machine
end

