-- ==== Sys2Proof/Machine/Frequency.lean ====
section
/-! DEFINITION. SETFREQ (41_frequency.md R108, R109). -/

namespace Sys2Proof.Machine

open Sys2Proof.Config

/-- Steps 1 to 8 of R108, for an operand or, in INIT's phase 2, for the stored FREQ (40_lifecycle.md R82).
FREQ is written at step 1, before any transaction (R109). -/
def setfreqBody (operand : Option Half) : List Action :=
  [ .clampFreq operand,
    .computePresc,
    .readMode,
    .writeReg mode1 .sleepMode,
    .writeReg prescale .presc,
    .writeReg mode1 .oldMode,
    .delay prescaleSettleMs,
    .writeReg mode1 .resumeMode ]

/-- SETFREQ (R108). -/
def execSetfreq (freq : Half) (s : State) : Host.Outcome State Fault Refusal :=
  s.run (setfreqBody (some freq))

end Sys2Proof.Machine
end

