-- ==== Sys2Proof/Machine/Lifecycle.lean ====
section
/-! DEFINITION. CFG, INIT and RST (40_lifecycle.md). -/

namespace Sys2Proof.Machine

open Sys2Proof.Config

/-- The lines of RST (R83), which are also INIT's phase 1 (R82). -/
def resetBody : List Action :=
  [.writeReg mode1 (.literal modeReset), .delay resetDelayMs]

/-- CFG: both registers verbatim, no transaction (R80). -/
def execCfg (addr : Byte) (freq : Half) (s : State) : Host.Outcome State Fault Refusal :=
  s.run [.loadAddr addr, .loadFreq freq]

/-- INIT: the body of RST, then the body of SETFREQ on the stored FREQ (R82). -/
def execInit (s : State) : Host.Outcome State Fault Refusal :=
  s.run (resetBody ++ setfreqBody none)

/-- RST (R83). -/
def execRst (s : State) : Host.Outcome State Fault Refusal :=
  s.run resetBody

end Sys2Proof.Machine
end

