-- ==== Sys2Proof/Machine/RegisterAccess.lean ====
section
/-! DEFINITION. RDREG and WRREG (43_register_access.md): every register address is passed through unchecked. -/

namespace Sys2Proof.Machine

/-- RDREG: one read, its byte returned on the result port and kept nowhere else (R170). -/
def execRdreg (reg : Byte) (s : State) : Host.Outcome State Fault Refusal :=
  s.run [.readReg reg]

/-- WRREG: one write (R171). -/
def execWrreg (reg val : Byte) (s : State) : Host.Outcome State Fault Refusal :=
  s.run [.writeReg reg (.literal val)]

end Sys2Proof.Machine
end

