-- ==== Sys2Proof/Machine/Dispatch.lean ====
section
/-! DEFINITION. One arm per command of the opcode table (30_encoding.md R66). -/

namespace Sys2Proof.Machine

def exec (i : Instr) (s : State) : Host.Outcome State Fault Refusal :=
  match i with
  | .cfg addr freq => Sys2Proof.Machine.execCfg addr freq s
  | .init => Sys2Proof.Machine.execInit s
  | .rst => Sys2Proof.Machine.execRst s
  | .setfreq freq => Sys2Proof.Machine.execSetfreq freq s
  | .setticks ch on off => Sys2Proof.Machine.execSetticks ch on off s
  | .setpct ch duty => Sys2Proof.Machine.execSetpct ch duty s
  | .setlvl ch ticks inv => Sys2Proof.Machine.execSetlvl ch ticks inv s
  | .rdreg reg => Sys2Proof.Machine.execRdreg reg s
  | .wrreg reg val => Sys2Proof.Machine.execWrreg reg val s

end Sys2Proof.Machine
end

