-- ==== Sys2Proof/Machine/Step.lean ====
section
/-! DEFINITION. One step: PSDE takes the word on its command port and carries that command to its status
(10_state.md R27). A command in flight is first carried to its own status, and nothing is taken meanwhile; with
nothing presented PSDE waits. -/

namespace Sys2Proof.Machine

def step (s : State) : Host.Outcome State Fault Refusal :=
  if s.busy then s.resume
  else match s.takeCommand with
    | none => .next s
    | some (w, t) =>
      match decode w with
      | .ok i => exec i t
      | .error _ => .next t.refuse

/-- `s` with the table word next on the command port of an idle PSDE (log 5, log 13). What it does to a busy PSDE,
which the spec gives the host no way to do, is a DESIGN CHOICE (log 5): the running command is dropped. -/
def State.withFetchWord (s : State) (nbits w : Nat) : State := s.present (tableWord nbits w)

end Sys2Proof.Machine
end

