-- ==== Sys2Proof/WellFormed.lean ====
section
/-! DEFINITION. Well-formedness of what is written: an assembler line has one of the operand lists its
mnemonic allows, and every operand fits its field (30_encoding.md R69, R70). A term of `Instr` holds
operands of exactly the fields' widths (R62), so it is well-formed by its type; `Instr.wellFormed` says so
through the line that writes it. -/

namespace Sys2Proof

/-- A number that fits a uint8 field. -/
def fitsByte (n : Nat) : Bool := decide (n < 256)

/-- A number that fits a uint16 field. -/
def fitsHalf (n : Nat) : Bool := decide (n < 65536)

/-- A number that fits the 1-bit field `inv`. -/
def fitsBit (n : Nat) : Bool := decide (n < 2)

/-- An operand that does not fit its field is an assembly error, never truncated (R69). -/
def AsmLine.wellFormed (l : AsmLine) : Bool :=
  match l.mnemonic, l.operands with
  | .cfg, []                    => true
  | .cfg, [addr]                => fitsByte addr
  | .cfg, [addr, freq]          => fitsByte addr && fitsHalf freq
  | .init, []                   => true
  | .rst, []                    => true
  | .setfreq, [freq]            => fitsHalf freq
  | .setticks, [ch, on, off]    => fitsByte ch && fitsHalf on && fitsHalf off
  | .setpct, [ch, duty]         => fitsByte ch && fitsByte duty
  | .setlvl, [ch, ticks]        => fitsByte ch && fitsHalf ticks
  | .setlvl, [ch, ticks, inv]   => fitsByte ch && fitsHalf ticks && fitsBit inv
  | .rdreg, [reg]               => fitsByte reg
  | .wrreg, [reg, val]          => fitsByte reg && fitsByte val
  | .fullon, [ch]               => fitsByte ch
  | .fulloff, [ch]              => fitsByte ch
  | _, _                        => false

/-- The command can be written: each operand fits its field. -/
def Instr.wellFormed (i : Instr) : Bool := i.toAsm.wellFormed

end Sys2Proof
end

