-- ==== Sys2Proof/Machine/Assembler.lean ====
section
/-! DEFINITION. The assembler (30_encoding.md R69, R70): a written line to the one command it stands for.
What the rules leave open in the text form (blanks, the case of hexadecimal digits, the spellings of a number) is
log 14. -/

namespace Sys2Proof.Machine

/-! ## Lines -/

/-- A line whose operands fit; the pseudo-instructions expand to exactly one command (R70). -/
def assembleLine (l : AsmLine) : Option Instr :=
  if l.wellFormed then
    match l.mnemonic, l.operands with
    | .cfg, []                  => some (.cfg 0x40#8 50#16)
    | .cfg, [addr]              => some (.cfg (BitVec.ofNat 8 addr) 50#16)
    | .cfg, [addr, freq]        => some (.cfg (BitVec.ofNat 8 addr) (BitVec.ofNat 16 freq))
    | .init, []                 => some .init
    | .rst, []                  => some .rst
    | .setfreq, [freq]          => some (.setfreq (BitVec.ofNat 16 freq))
    | .setticks, [ch, on, off]  => some (.setticks (BitVec.ofNat 8 ch) (BitVec.ofNat 16 on) (BitVec.ofNat 16 off))
    | .setpct, [ch, duty]       => some (.setpct (BitVec.ofNat 8 ch) (BitVec.ofNat 8 duty))
    | .setlvl, [ch, ticks]      => some (.setlvl (BitVec.ofNat 8 ch) (BitVec.ofNat 16 ticks) false)
    | .setlvl, [ch, ticks, inv] => some (.setlvl (BitVec.ofNat 8 ch) (BitVec.ofNat 16 ticks) (decide (inv = 1)))
    | .rdreg, [reg]             => some (.rdreg (BitVec.ofNat 8 reg))
    | .wrreg, [reg, val]        => some (.wrreg (BitVec.ofNat 8 reg) (BitVec.ofNat 8 val))
    | .fullon, [ch]             => some (.setticks (BitVec.ofNat 8 ch) 4096#16 0#16)
    | .fulloff, [ch]            => some (.setticks (BitVec.ofNat 8 ch) 0#16 4096#16)
    | _, _                      => none
  else none

/-! ## Text -/

def mnemonicNames : List (List Char × Mnemonic) :=
  [ (['C', 'F', 'G'], .cfg),
    (['I', 'N', 'I', 'T'], .init),
    (['R', 'S', 'T'], .rst),
    (['S', 'E', 'T', 'F', 'R', 'E', 'Q'], .setfreq),
    (['S', 'E', 'T', 'T', 'I', 'C', 'K', 'S'], .setticks),
    (['S', 'E', 'T', 'P', 'C', 'T'], .setpct),
    (['S', 'E', 'T', 'L', 'V', 'L'], .setlvl),
    (['R', 'D', 'R', 'E', 'G'], .rdreg),
    (['W', 'R', 'R', 'E', 'G'], .wrreg),
    (['F', 'U', 'L', 'L', 'O', 'N'], .fullon),
    (['F', 'U', 'L', 'L', 'O', 'F', 'F'], .fulloff) ]

/-- The value of a digit, decimal or hexadecimal. -/
def digitValue (c : Char) : Option Nat :=
  let n := c.toNat
  if 48 ≤ n ∧ n ≤ 57 then some (n - 48)
  else if 65 ≤ n ∧ n ≤ 70 then some (n - 55)
  else if 97 ≤ n ∧ n ≤ 102 then some (n - 87)
  else none

/-- The digits of a number in a base, after those read so far. -/
def digitsValue (base : Nat) : Nat → List Char → Option Nat
  | acc, [] => some acc
  | acc, c :: cs =>
    match digitValue c with
    | some d => if d < base then digitsValue base (acc * base + d) cs else none
    | none => none

/-- A number is decimal, or hexadecimal with `0x` (R69). DESIGN CHOICE (log 14): leading zeros are taken, and `inv`,
which R69 writes `0` or `1`, may have any spelling of those two numbers (`01`, `0x1`). -/
def numberValue : List Char → Option Nat
  | [] => none
  | '0' :: 'x' :: [] => none
  | '0' :: 'x' :: ds => digitsValue 16 0 ds
  | ds => digitsValue 10 0 ds

/-- Blanks at both ends do not count. -/
def trimBlanks (cs : List Char) : List Char :=
  ((cs.dropWhile (· == ' ')).reverse.dropWhile (· == ' ')).reverse

/-- The parts between the commas. -/
def splitCommas (cs : List Char) : List (List Char) :=
  cs.foldr (fun c parts =>
    if c == ',' then [] :: parts
    else match parts with
      | [] => [[c]]
      | p :: ps => (c :: p) :: ps) [[]]

/-- All operands of a line, or none if one of them is no number. -/
def operandValues : List (List Char) → Option (List Nat)
  | [] => some []
  | p :: ps =>
    match numberValue (trimBlanks p), operandValues ps with
    | some n, some ns => some (n :: ns)
    | _, _ => none

/-- A mnemonic, then its operands separated by commas (R69). -/
def parseLine (text : List Char) : Option AsmLine :=
  let line := trimBlanks text
  let name := line.takeWhile (· != ' ')
  let rest := trimBlanks (line.dropWhile (· != ' '))
  match mnemonicNames.lookup name, (if rest.isEmpty then some [] else operandValues (splitCommas rest)) with
  | some m, some ns => some ⟨m, ns⟩
  | _, _ => none

/-- A written line to its command. -/
def assemble (text : List Char) : Option Instr := (parseLine text).bind assembleLine

end Sys2Proof.Machine
end

