-- ==== Sys2Proof/Safety.lean ====
section
/-! DEFINITION. What claims are stated in: the trace notation of 00_scope.md R13, the traces the rules give, the
bounds of written operands, what a trace sends and asks for, when a report and a state are as the rules require, and
the boot premise of 70_reset_and_hazards.md R216. Nothing here is used by `step`. -/

namespace Sys2Proof.Machine

open Sys2Proof.Config

/-! ## Trace notation (00_scope.md R13); `d` is the device address each record carries -/

/-- `RD(reg) = v` -/
def rd (d reg v : Byte) : Record := ⟨d, .read reg, .value v⟩

/-- `WR(reg, v)` -/
def wr (d reg v : Byte) : Record := ⟨d, .write reg v, .done⟩

/-- `WB(start, [b0, b1, b2, b3])`: length 4 and atomic (20_memory.md R48) -/
def wb (d start b0 b1 b2 b3 : Byte) : Record := ⟨d, .block start 4#8 [b0, b1, b2, b3] true, .done⟩

/-- `DLY(ms)` -/
def dly (d : Byte) (ms : BitVec 32) : Record := ⟨d, .delay ms, .done⟩

/-- The same record with a trailing `!`. -/
def Record.fail (r : Record) : Record := { r with completion := .failed }

/-- A trace cut at position `n`, whose record failed (60_exceptions.md R181). -/
def failedAt (trace : List Record) (n : Nat) : List Record :=
  trace.take n ++ ((trace.drop n).take 1).map Record.fail

/-- The trace of R83. -/
def resetTrace (d : Byte) : List Record := [wr d 0x00#8 0x80#8, dly d 10#32]

/-- The trace of R108: `p` is the PRESCALE byte, `m` the byte read, `e` the byte of step 8. -/
def reconfigureTrace (d p m e : Byte) : List Record :=
  [rd d 0x00#8 m, wr d 0x00#8 (m ||| 0x10#8), wr d 0xFE#8 p, wr d 0x00#8 m, dly d 5#32, wr d 0x00#8 e]

/-! ## What may be written -/

/-- For each operand a mnemonic's longest line has, in written order, the least number that does not fit its field
(30_encoding.md R62, R69, R70). -/
def operandBounds : Mnemonic → List Nat
  | .cfg => [256, 65536]
  | .init => []
  | .rst => []
  | .setfreq => [65536]
  | .setticks => [256, 65536, 65536]
  | .setpct => [256, 256]
  | .setlvl => [256, 65536, 2]
  | .rdreg => [256]
  | .wrreg => [256, 256]
  | .fullon => [256]
  | .fulloff => [256]

/-! ## What the transport does -/

/-- The transport answers at least `k` more requests. -/
def State.answersAtLeast (s : State) (k : Nat) : Bool :=
  match s.silentAfter with
  | none => true
  | some n => decide (k ≤ n)

/-- The answer to the `k`-th request from here is a success. -/
def State.accepts (s : State) (k : Nat) : Bool :=
  match s.reply k with
  | .success _ => true
  | .failure => false

/-- How many requests a command makes of the transport when all succeed. -/
def requestCount (p : Params) : Instr → Nat
  | .cfg _ _ => 0
  | .init => 6
  | .rst => 1
  | .setfreq _ => 5
  | .setticks ch _ _ => if channelRefused p ch then 0 else 1
  | .setpct ch _ => if channelRefused p ch then 0 else 1
  | .setlvl ch _ _ => if channelRefused p ch then 0 else 1
  | .rdreg _ => 1
  | .wrreg _ _ => 1

/-! ## How a command is encoded and how it leaves the machine -/

/-- A command's encoding (30_encoding.md R61): exactly the words with `op` and zeros under `mask` are the command, its
operands read from these fields. -/
def encodedBy (mask op : Word48) (command : Word48 → Instr) : Prop :=
  ∀ w : Word48, w &&& mask = op ↔ decode w = .ok (command w)

/-- `s` after a command that made `k` requests and ended with this status, trace and result byte: idle, with
one more report, everything else as before. A statement that a command also writes a register says so on top. -/
def State.ended (s : State) (k : Nat) (status : Status) (trace : List Record) (result : Option Byte) : State :=
  { s with
    busy := false
    index := 0
    pending := []
    trace := []
    result := none
    answers := s.answers.drop k
    draws := s.draws + k
    silentAfter := s.silentAfter.map (· - k)
    history := ⟨trace, status, result, s.hostWait trace⟩ :: s.history
    settleOwed := if trace.isEmpty then s.settleOwed else leavesSettleOwed trace }

/-- A state without its two latches (10_state.md R26). -/
def State.withoutLatches (s : State) : State := { s with oldMode := 0x00#8, presc := 0x00#8 }

/-- An outcome seen without the latches. -/
def outcomeWithoutLatches : Host.Outcome State Fault Refusal → Host.Outcome State Fault Refusal
  | .next t => .next t.withoutLatches
  | .fault f => .fault f
  | .refused r => .refused r

/-- Up to `n` lines of the running command, stopping when it has ended. -/
def State.advanceTimes (s : State) : Nat → State
  | 0 => s
  | n + 1 => if s.busy then s.advance.advanceTimes n else s

/-! ## What a trace sends and asks for -/

/-- The bytes a request sends, each with the register number it is destined for: byte `i` of a block goes to
`start + i` (42_duty.md R133). The number is not wrapped: past 0xFF the source does not say where a byte lands
(R132; log 12). -/
def Request.bytesSent : Request → List (Nat × Byte)
  | .write reg val => [(reg.toNat, val)]
  | .block start _ data _ => data.mapIdx (fun i b => (start.toNat + i, b))
  | .read _ => []
  | .delay _ => []

/-- The bytes a whole trace sends, in order. -/
def bytesSent (trace : List Record) : List (Nat × Byte) := trace.flatMap (·.request.bytesSent)

/-- The delay a request asks for, in ms. -/
def Request.delayMs : Request → Nat
  | .delay ms => ms.toNat
  | _ => 0

/-- The least time the delays of a report take, in ms (70_reset_and_hazards.md R220). -/
def Report.delayTotal (r : Report) : Nat := (r.trace.map (·.request.delayMs)).sum

/-- A single-byte write to PRESCALE. -/
def Request.isPrescaleWrite : Request → Bool
  | .write reg _ => reg == 0xFE#8
  | _ => false

/-- A single-byte write to MODE1 that sets bit 4, sleep. -/
def Request.isSleepWrite : Request → Bool
  | .write reg val => reg == 0x00#8 && val.getLsbD 4
  | _ => false

/-- Every single-byte PRESCALE write comes right after a MODE1 write that sets sleep (70_reset_and_hazards.md
R211); `asleep` says whether the record before the list is such a write. -/
def prescaleAsleep (asleep : Bool) : List Record → Bool
  | [] => true
  | r :: rest => (asleep || !r.request.isPrescaleWrite) && prescaleAsleep r.request.isSleepWrite rest

/-! ## Consistent reports and states -/

/-- PSDE's requests: any single-byte read or write, an atomic block write of exactly 4 bytes at a start that is 2
mod 4, a delay of 10 or 5 ms (20_memory.md R47, R48, R49; 60_exceptions.md R189). -/
def Request.allowed : Request → Bool
  | .read _ => true
  | .write _ _ => true
  | .block start length data atomic => start.toNat % 4 == 2 && length == 4#8 && data.length == 4 && atomic
  | .delay ms => ms == 10#32 || ms == 5#32

/-- A line of a command's rule that issues only such requests. -/
def Action.allowed : Action → Bool
  | .writeBlock start data => start.toNat % 4 == 2 && data.length == 4
  | .delay ms => ms == 10#32 || ms == 5#32
  | _ => true

def Record.hasFailed (r : Record) : Bool := r.completion == .failed

/-- The last record failed and no other did. -/
def failsAtEnd : List Record → Bool
  | [] => false
  | [r] => r.hasFailed
  | r :: rest => !r.hasFailed && failsAtEnd rest

/-- The status of a report agrees with its trace (10_state.md R31, 60_exceptions.md R180, R181, R183). -/
def Report.consistent (r : Report) : Bool :=
  r.trace.all (·.request.allowed) &&
  match r.status with
  | .ok => r.trace.all (!·.hasFailed)
  | .refused => r.trace.isEmpty && r.result.isNone
  | .transportFailed => failsAtEnd r.trace && r.result.isNone

/-- What every step keeps. -/
structure State.Inv (s : State) : Prop where
  /-- The transaction index counts the running command's records (10_state.md R24). -/
  index_counts : s.index = s.trace.length
  /-- An idle PSDE holds nothing of a command (R26, R23). -/
  idle_clean : s.busy = false → s.pending = [] ∧ s.trace = [] ∧ s.result = none
  /-- A running command has had no failure and issued only allowed requests. -/
  trace_good : ∀ r ∈ s.trace, r.hasFailed = false ∧ r.request.allowed = true
  pending_good : ∀ a ∈ s.pending, a.allowed = true
  history_good : ∀ r ∈ s.history, r.consistent = true

/-! ## The boot premise (70_reset_and_hazards.md R216, R219) -/

/-- The report of a SETFREQ or INIT that succeeded: only these ask for the 5 ms delay. -/
def Report.configured (r : Report) : Bool :=
  decide (r.status = .ok) && r.trace.any (·.request == .delay 5#32)

/-- A SETFREQ or INIT has succeeded; before that no claim may assume that a channel command reaches four
registers (R216). -/
def State.booted (s : State) : Bool := s.history.any Report.configured

end Sys2Proof.Machine
end

