-- ==== Sys2Proof/Certificates/Slice0/Obligations.lean ====
section
/-! DEFINITION. The statements about the model, from the spec's numbered rules. Each result statement gives the
whole next state: what the record update does not name is unchanged (its frame). `s.ended k st tr b` is `s` idle
again, `k` answers taken, with one more report (trace `tr`, status `st`, result byte `b`). What `ended` says of the
model's own fields (the answers taken, the host's wait, the order of the history) and that the latches keep their last
values is the model's choice, no rule of the spec (log 2, 3, 4, 7, 8). -/

open Sys2Proof Sys2Proof.Machine Sys2Proof.Config

/-! ## Encoding -/

/-- R60, R61, R62: decoding a command's word gives the command back, whatever its operands. -/
def Obligations.DecodeOfEncode : Prop :=
  ∀ i : Instr, decode (encode i) = .ok i

/-- R61, R64: no bit of a word that selects a command is dropped by the decoder. -/
def Obligations.EncodeOfDecode : Prop :=
  ∀ (w : Word48) (i : Instr), decode w = .ok i → encode i = w

/-- R61, R66: a word selects a command exactly when (w AND mask) = match, with its operands in the fields of the
format. -/
def Obligations.WordSelectsExactlyItsCommand : Prop :=
  encodedBy 0xFF00FFFF0000#48 0x100000000000#48 (fun w => .cfg (w.extractLsb' 32 8) (w.extractLsb' 0 16)) ∧
  encodedBy 0xFFFFFFFFFFFF#48 0x200000000000#48 (fun _ => .init) ∧
  encodedBy 0xFFFFFFFFFFFF#48 0x300000000000#48 (fun _ => .rst) ∧
  encodedBy 0xFFFFFFFF0000#48 0x400000000000#48 (fun w => .setfreq (w.extractLsb' 0 16)) ∧
  encodedBy 0xFF0000000000#48 0x500000000000#48
    (fun w => .setticks (w.extractLsb' 32 8) (w.extractLsb' 16 16) (w.extractLsb' 0 16)) ∧
  encodedBy 0xFF00FFFFFF00#48 0x600000000000#48 (fun w => .setpct (w.extractLsb' 32 8) (w.extractLsb' 0 8)) ∧
  encodedBy 0xFF00FFFE0000#48 0x700000000000#48
    (fun w => .setlvl (w.extractLsb' 32 8) (w.extractLsb' 0 16) (w.getLsbD 16)) ∧
  encodedBy 0xFFFFFFFF00FF#48 0x800000000000#48 (fun w => .rdreg (w.extractLsb' 8 8)) ∧
  encodedBy 0xFFFFFFFF0000#48 0x900000000000#48 (fun w => .wrreg (w.extractLsb' 8 8) (w.extractLsb' 0 8))

/-- R71: the worked encodings, both ways, and the worked refusal. -/
def Obligations.WorkedEncodings : Prop :=
  (encode (.setfreq 50#16) = 0x400000000032#48 ∧ decode 0x400000000032#48 = .ok (.setfreq 50#16)) ∧
  (encode (.cfg 0x40#8 50#16) = 0x104000000032#48 ∧ decode 0x104000000032#48 = .ok (.cfg 0x40#8 50#16)) ∧
  (encode (.setticks 3#8 0#16 2055#16) = 0x500300000807#48 ∧
    decode 0x500300000807#48 = .ok (.setticks 3#8 0#16 2055#16)) ∧
  (encode (.setlvl 0#8 100#16 true) = 0x700000010064#48 ∧
    decode 0x700000010064#48 = .ok (.setlvl 0#8 100#16 true)) ∧
  (encode (.wrreg 0xFE#8 0x79#8) = 0x90000000FE79#48 ∧
    decode 0x90000000FE79#48 = .ok (.wrreg 0xFE#8 0x79#8)) ∧
  decode 0x400000010032#48 = .error .reservedBits ∧
  ∀ (s : State) (rest : List Word48), s.busy = false → s.commands = 0x400000010032#48 :: rest →
    step s = .next ({ s with commands := rest }.ended 0 .refused [] none)

/-- R65: an op of 0x0 or 0xA to 0xF selects no command: REFUSED, no transaction, no register written. -/
def Obligations.ReservedOpcodeIsRefused : Prop :=
  ∀ (s : State) (w : Word48) (rest : List Word48), s.busy = false → s.commands = w :: rest →
    ((w.extractLsb' 44 4).toNat = 0 ∨ 10 ≤ (w.extractLsb' 44 4).toNat) →
    (∀ i, decode w ≠ .ok i) ∧ step s = .next ({ s with commands := rest }.ended 0 .refused [] none)

/-- R64: an assigned op with a reserved bit of its format (R61) set: REFUSED, no transaction, no register
written. -/
def Obligations.ReservedBitIsRefused : Prop :=
  ∀ (s : State) (w : Word48) (rest : List Word48) (op : Nat) (reserved : Word48),
    s.busy = false → s.commands = w :: rest →
    (op, reserved) ∈ [(1, 0x0F00FFFF0000#48), (2, 0x0FFFFFFFFFFF#48), (3, 0x0FFFFFFFFFFF#48),
      (4, 0x0FFFFFFF0000#48), (5, 0x0F0000000000#48), (6, 0x0F00FFFFFF00#48), (7, 0x0F00FFFE0000#48),
      (8, 0x0FFFFFFF00FF#48), (9, 0x0FFFFFFF0000#48)] →
    (w.extractLsb' 44 4).toNat = op → w &&& reserved ≠ 0#48 →
    step s = .next ({ s with commands := rest }.ended 0 .refused [] none)

/-- R69: a line that assembles is well-formed, a pseudo-instruction's too: it has no operand too many and each one
fits its field. With all its operands written it is exactly the line that writes the command, so none is truncated. -/
def Obligations.AssemblerNeverTruncates : Prop :=
  ∀ (l : AsmLine) (i : Instr), assembleLine l = some i →
    l.wellFormed = true ∧
    l.operands.length ≤ (operandBounds l.mnemonic).length ∧
    (∀ x ∈ l.operands.zip (operandBounds l.mnemonic), x.1 < x.2) ∧
    (l.operands.length = i.toAsm.operands.length → i.toAsm = l)

/-- R69: every command can be written, and its line assembles to it. -/
def Obligations.AssembleOfWritten : Prop :=
  ∀ i : Instr, assembleLine i.toAsm = some i

/-- R70: each pseudo-instruction expands to its one command. -/
def Obligations.PseudoInstructionsExpand : Prop :=
  assembleLine ⟨.cfg, []⟩ = some (.cfg 0x40#8 50#16) ∧
  (∀ addr : Byte, assembleLine ⟨.cfg, [addr.toNat]⟩ = some (.cfg addr 50#16)) ∧
  (∀ (ch : Byte) (ticks : Half),
    assembleLine ⟨.setlvl, [ch.toNat, ticks.toNat]⟩ = some (.setlvl ch ticks false)) ∧
  (∀ ch : Byte, assembleLine ⟨.fullon, [ch.toNat]⟩ = some (.setticks ch 4096#16 0#16)) ∧
  (∀ ch : Byte, assembleLine ⟨.fulloff, [ch.toNat]⟩ = some (.setticks ch 0#16 4096#16))

/-! ## Steps and the command port -/

/-- R27, R67: an idle PSDE takes the word on its port and runs the command it decodes to, with the rest of the
stream left. -/
def Obligations.StepRunsDecodedCommand : Prop :=
  ∀ (s : State) (w : Word48) (rest : List Word48) (i : Instr),
    s.busy = false → s.commands = w :: rest → decode w = .ok i →
    step s = exec i { s with commands := rest }

/-- The host's two entries agree (the model's choice, log 5 and 13): a table word placed with withFetchWord is the
command the very next step runs, from a busy state too, whose running command is dropped; and decodeTableWord reads
the same command. -/
def Obligations.FetchedTableWordRuns : Prop :=
  ∀ (s : State) (w : Word48) (i : Instr), decode w = .ok i →
    decodeTableWord 48 w.toNat = some i ∧
    step (s.withFetchWord 48 w.toNat) = exec i { s with busy := false }

/-- R27: no command is taken from the port while one runs. That the step carries the running command to its end, with
exactly one report, is the model's reading, not the rule's (log 5, with the grain of log 1). -/
def Obligations.NothingTakenWhileBusy : Prop :=
  ∀ (s t : State), s.busy = true → step s = .next t →
    t.commands = s.commands ∧ t.busy = false ∧ ∃ r, t.history = r :: s.history

/-- With nothing presented an idle PSDE waits unchanged (the model's choice, log 5; R24: the host alone supplies
commands). -/
def Obligations.IdleWaitsForCommand : Prop :=
  ∀ s : State, s.busy = false → s.commands = [] → step s = .next s

/-! ## Power-on and lifecycle -/

/-- R32: ADDR = 0x40, FREQ = 50, busy = 0, and power-on issues no transaction. -/
def Obligations.PowerOnState : Prop :=
  State.reset.addr = 0x40#8 ∧ State.reset.freq = 50#16 ∧ State.reset.busy = false ∧
  State.reset.trace = [] ∧ State.reset.history = []

/-- R81: CFG 0x40, 50 leaves ADDR and FREQ as at power-on, from any state, and issues nothing; from power-on it
changes nothing but the history. -/
def Obligations.PowerOnEqualsDefaultCfg : Prop :=
  exec (.cfg 0x40#8 50#16) State.reset = .next { State.reset with history := [⟨[], .ok, none, 0⟩] } ∧
  ∀ s : State, exec (.cfg 0x40#8 50#16) s =
    .next { s.ended 0 .ok [] none with addr := State.reset.addr, freq := State.reset.freq }

/-- R80: the encoding of format C; CFG stores both operands verbatim, with no clamp and no check, issues nothing and
cannot fail. -/
def Obligations.CfgStoresVerbatim : Prop :=
  encodedBy 0xFF00FFFF0000#48 0x100000000000#48 (fun w => .cfg (w.extractLsb' 32 8) (w.extractLsb' 0 16)) ∧
  ∀ (s : State) (addr : Byte) (freq : Half),
    exec (.cfg addr freq) s = .next { s.ended 0 .ok [] none with addr := addr, freq := freq }

/-- R83: the encoding of format N; RST is WR(0x00, 0x80); DLY(10); if the write fails no delay is issued. ADDR and
FREQ are unchanged. -/
def Obligations.RstFollowsItsRule : Prop :=
  encodedBy 0xFFFFFFFFFFFF#48 0x300000000000#48 (fun _ => .rst) ∧
  ∀ s : State, s.answersAtLeast 1 = true →
    (s.accepts 0 = true →
      exec .rst s = .next (s.ended 1 .ok [wr s.addr 0x00#8 0x80#8, dly s.addr 10#32] none)) ∧
    (s.reply 0 = .failure →
      exec .rst s = .next (s.ended 1 .transportFailed [(wr s.addr 0x00#8 0x80#8).fail] none))

/-- R82: the encoding of format N; INIT is RST's body, then SETFREQ's body on the stored FREQ. A failed reset write
leaves FREQ and issues no delay; a later failure ends the trace at its transaction, with FREQ already clamped.
Transaction `k` of 1 to 5 stands at position `k + 1` of the trace, the last one behind the 5 ms delay. -/
def Obligations.InitFollowsItsRule : Prop :=
  encodedBy 0xFFFFFFFFFFFF#48 0x200000000000#48 (fun _ => .init) ∧
  ∀ (s : State) (m : Byte),
    let fc := clampFreq s.freq
    let p := prescaleByte s.params fc.toNat
    let trace := resetTrace s.addr ++ reconfigureTrace s.addr p m (resumeMode s.params m)
    (s.answersAtLeast 6 = true → (∀ j, j < 6 → s.accepts j = true) → s.reply 1 = .success m →
      exec .init s = .next { s.ended 6 .ok trace none with freq := fc, presc := p, oldMode := m }) ∧
    (s.answersAtLeast 1 = true → s.reply 0 = .failure →
      exec .init s = .next (s.ended 1 .transportFailed [(wr s.addr 0x00#8 0x80#8).fail] none)) ∧
    (∀ k, 1 ≤ k → k ≤ 5 → s.answersAtLeast (k + 1) = true → (∀ j, j < k → s.accepts j = true) →
      s.reply k = .failure → (2 ≤ k → s.reply 1 = .success m) →
      exec .init s = .next { s.ended (k + 1) .transportFailed (failedAt trace (if k < 5 then k + 1 else 7)) none
        with freq := fc, presc := p, oldMode := if k = 1 then s.oldMode else m })

/-! ## The prescaler and SETFREQ -/

/-- R100: the clamp to 24..1526. -/
def Obligations.FrequencyClamp : Prop :=
  ∀ f : Half, (clampFreq f).toNat = min (max f.toNat 24) 1526 ∧
    (f.toNat < 24 → clampFreq f = 24#16) ∧ (1526 < f.toNat → clampFreq f = 1526#16) ∧
    (24 ≤ f.toNat → f.toNat ≤ 1526 → clampFreq f = f)

/-- R101, R102, R103: K = 610351, of 20 bits, from a product of 32; q = K div fc is 25e6/4096/fc in hundredths,
truncated, from 399 to 25431; the wide value, PRESCALE_FN's default, is ((q * 10) div 9 - 100 + 50) div 100, with the
product below 2^18 and no subtraction below 0, from 3 to 282. -/
def Obligations.PrescalerDatapath : Prop :=
  scaledOsc = 610351 ∧ scaledOsc = 25000000 * 100 / 4096 ∧ 610351 < 2 ^ 20 ∧ 25000000 * 100 < 2 ^ 32 ∧
  defaultParams.prescaleFn = .prescaleWide ∧ hundredths 1526 = 399 ∧ hundredths 24 = 25431 ∧
  ∀ fc : Nat, 24 ≤ fc → fc ≤ 1526 →
    hundredths fc = 610351 / fc ∧ hundredths fc = 100 * 25000000 / (4096 * fc) ∧
    399 ≤ hundredths fc ∧ hundredths fc ≤ 25431 ∧
    610351 / fc * 10 < 2 ^ 18 ∧ 443 ≤ 610351 / fc * 10 / 9 ∧ 393 ≤ 610351 / fc * 10 / 9 - 100 + 50 ∧
    prescaleWide fc = (610351 / fc * 10 / 9 - 100 + 50) / 100 ∧
    3 ≤ prescaleWide fc ∧ prescaleWide fc ≤ 282

/-- R104: prescale_wide(fc) = floor(y + 1/2) - 1 for y = 250 000 000 / (36 864 * fc); floor(y + 1/2) is written as the
floor division of 2 * 250 000 000 + 36 864 * fc by 2 * 36 864 * fc. -/
def Obligations.PrescalerRoundsExactly : Prop :=
  ∀ fc : Nat, 24 ≤ fc → fc ≤ 1526 →
    prescaleWide fc + 1 = (2 * 250000000 + 36864 * fc) / (2 * (36864 * fc))

/-- R105, and R8 for any PRESCALE_FN (held as log 6 says): the byte is PRESCALE_FN's value mod 256 under WRAP and its
minimum with 255 under SATURATE. With the default function: the byte for 24, 25 and 26 Hz under each narrowing; above
them the value itself, which fits. -/
def Obligations.PrescaleByteNarrowing : Prop :=
  (∀ (p : Params) (fc : Nat),
    (p.narrow = .wrap → (prescaleByte p fc).toNat = prescaleValue p.prescaleFn fc % 256) ∧
    (p.narrow = .saturate → (prescaleByte p fc).toNat = min (prescaleValue p.prescaleFn fc) 255) ∧
    (p.prescaleFn = .prescaleWide → prescaleValue p.prescaleFn fc = prescaleWide fc)) ∧
  ∀ p : Params, p.prescaleFn = .prescaleWide →
    prescaleWide 24 = 282 ∧ prescaleWide 25 = 270 ∧ prescaleWide 26 = 260 ∧
    (p.narrow = .wrap →
      prescaleByte p 24 = 0x1A#8 ∧ prescaleByte p 25 = 0x0E#8 ∧ prescaleByte p 26 = 0x04#8) ∧
    (p.narrow = .saturate →
      prescaleByte p 24 = 0xFF#8 ∧ prescaleByte p 25 = 0xFF#8 ∧ prescaleByte p 26 = 0xFF#8) ∧
    ∀ fc : Nat, 27 ≤ fc → fc ≤ 1526 →
      3 ≤ prescaleWide fc ∧ prescaleWide fc ≤ 250 ∧ (prescaleByte p fc).toNat = prescaleWide fc

/-- R110: over 24..1526 the wide value is non-increasing, each value is reached by a contiguous run, there are 138
values, from 282 at 24 down to 3 exactly for 1508 to 1526. -/
def Obligations.PrescalerProperties : Prop :=
  (∀ a b : Nat, 24 ≤ a → a ≤ b → b ≤ 1526 → prescaleWide b ≤ prescaleWide a) ∧
  (∀ a b c : Nat, 24 ≤ a → a ≤ b → b ≤ c → c ≤ 1526 → prescaleWide a = prescaleWide c →
    prescaleWide b = prescaleWide a) ∧
  ((Finset.Icc 24 1526).image prescaleWide).card = 138 ∧
  prescaleWide 24 = 282 ∧
  ∀ fc : Nat, 24 ≤ fc → fc ≤ 1526 → (prescaleWide fc = 3 ↔ 1508 ≤ fc)

/-- R8 (log 6): PRESCALE_FN may be any function of the clamped frequency: every such function is a value of the
parameter, and the byte written is then made from its value (R105). -/
def Obligations.AnyPrescaleFunction : Prop :=
  ∀ g : Nat → Nat, ∃ fn : PrescaleFn, ∀ f : Half,
    let fc := (clampFreq f).toNat
    prescaleValue fn fc = g fc ∧
    ∀ p : Params, p.prescaleFn = fn →
      (p.narrow = .wrap → (prescaleByte p fc).toNat = g fc % 256) ∧
      (p.narrow = .saturate → (prescaleByte p fc).toNat = min (g fc) 255)

/-- R106, R107: step 4 forces bit 4 only; step 8 forces bits 5 and 7 only under OR_OLD, and is 0xA0 under LITERAL. -/
def Obligations.ModeValues : Prop :=
  (∀ (m : Byte) (i : Nat), i < 8 → (sleepMode m).getLsbD i = (decide (i = 4) || m.getLsbD i)) ∧
  (∀ (p : Params) (m : Byte) (i : Nat), p.resume = .orOld → i < 8 →
    (resumeMode p m).getLsbD i = (decide (i = 5) || decide (i = 7) || m.getLsbD i)) ∧
  (∀ (p : Params) (m : Byte), p.resume = .literal → resumeMode p m = 0xA0#8)

/-- R108, R109: the encoding of format F; SETFREQ clamps, writes FREQ, and issues one read, four writes and one
delay; the first failing transaction ends it there, with FREQ already written. Transaction `k` of 0 to 4 stands at
position `k` of the trace, the last one behind the 5 ms delay. -/
def Obligations.SetfreqFollowsItsRule : Prop :=
  encodedBy 0xFFFFFFFF0000#48 0x400000000000#48 (fun w => .setfreq (w.extractLsb' 0 16)) ∧
  ∀ (s : State) (freq : Half) (m : Byte),
    let fc := clampFreq freq
    let p := prescaleByte s.params fc.toNat
    let trace := reconfigureTrace s.addr p m (resumeMode s.params m)
    (s.answersAtLeast 5 = true → (∀ j, j < 5 → s.accepts j = true) → s.reply 0 = .success m →
      exec (.setfreq freq) s = .next { s.ended 5 .ok trace none with freq := fc, presc := p, oldMode := m }) ∧
    (∀ k, k ≤ 4 → s.answersAtLeast (k + 1) = true → (∀ j, j < k → s.accepts j = true) →
      s.reply k = .failure → (1 ≤ k → s.reply 0 = .success m) →
      exec (.setfreq freq) s =
        .next { s.ended (k + 1) .transportFailed (failedAt trace (if k < 4 then k else 5)) none
          with freq := fc, presc := p, oldMode := if k = 0 then s.oldMode else m })

/-- R22: FREQ is in 24..1526 after any SETFREQ, whatever became of its transactions, and after an INIT whose reset
write succeeded; every command but CFG keeps it there, and CFG stores what it is given. -/
def Obligations.FreqStaysInRange : Prop :=
  ∀ (i : Instr) (s t : State), exec i s = .next t →
    ((∃ f, i = .setfreq f) ∨ (i = .init ∧ s.accepts 0 = true) → 24 ≤ t.freq.toNat ∧ t.freq.toNat ≤ 1526) ∧
    ((∀ a f, i ≠ .cfg a f) → 24 ≤ s.freq.toNat → s.freq.toNat ≤ 1526 →
      24 ≤ t.freq.toNat ∧ t.freq.toNat ≤ 1526) ∧
    (∀ a f, i = .cfg a f → t.freq = f)

/-! ## The duty encoder and its commands -/

/-- R131, R132, R43, R47: the channel base is 6 + 4*ch, mod 256 above channel 15; the sixteen channels fill 0x06 to
0x45 without a gap, and every base is 2 mod 4. -/
def Obligations.ChannelRegisters : Prop :=
  (∀ ch : Byte, (channelBase ch).toNat = (6 + 4 * ch.toNat) % 256 ∧ (channelBase ch).toNat % 4 = 2) ∧
  (∀ ch : Byte, ch.toNat ≤ 15 → (channelBase ch).toNat = 6 + 4 * ch.toNat ∧ (channelBase ch).toNat ≤ 0x42) ∧
  (∀ a : Nat, (0x06 ≤ a ∧ a ≤ 0x45) ↔
    ∃ (ch : Byte) (i : Nat), ch.toNat ≤ 15 ∧ i < 4 ∧ a = (channelBase ch).toNat + i)

/-- R130, R133, R46: all 16 bits of a tick are kept, low byte first, and byte i of the block is destined for register
base + i: on-low, on-high, off-low, off-high. Only for a base whose block stays within the register space: where the
later bytes of one that starts at 0xFD or above land is not in the source (R132; log 12). -/
def Obligations.PairBytesLittleEndian : Prop :=
  (∀ v : Half, (lo v).toNat = v.toNat % 256 ∧ (hi v).toNat = v.toNat / 256) ∧
  ∀ (d ch : Byte) (on off : Half), (channelBase ch).toNat ≤ 0xFC →
    bytesSent [⟨d, .block (channelBase ch) 4#8 (pairBytes on off) true, .done⟩] =
      [((channelBase ch).toNat, lo on), ((channelBase ch).toNat + 1, hi on),
       ((channelBase ch).toNat + 2, lo off), ((channelBase ch).toNat + 3, hi off)]

/-- R134: the two sentinels, their data bytes, and that no tick of 0 to 4095 is one. -/
def Obligations.SentinelBytes : Prop :=
  pairBytes fullOn.1 fullOn.2 = [0x00#8, 0x10#8, 0x00#8, 0x00#8] ∧
  pairBytes fullOff.1 fullOff.2 = [0x00#8, 0x00#8, 0x00#8, 0x10#8] ∧
  fullOn = (4096#16, 0#16) ∧ fullOff = (0#16, 4096#16) ∧
  ∀ on off : Half, on.toNat ≤ 4095 → off.toNat ≤ 4095 → (on, off) ≠ fullOn ∧ (on, off) ≠ fullOff

/-- R136: percent_to_off: 0 for 0, else (4096 * d) div 255 - 1 exactly, at most 4095, and the rule's values. -/
def Obligations.PercentMapping : Prop :=
  percentToOff 0#8 = 0#16 ∧
  (∀ d : Byte, d ≠ 0#8 → 16 ≤ 4096 * d.toNat / 255 ∧
    (percentToOff d).toNat = 4096 * d.toNat / 255 - 1 ∧ (percentToOff d).toNat ≤ 4095) ∧
  percentToOff 1#8 = 15#16 ∧ percentToOff 128#8 = 2055#16 ∧ percentToOff 254#8 = 4078#16 ∧
  percentToOff 255#8 = 4095#16

/-- R138, R139: the sentinels exactly at the boundary levels, after the clamp to 4095; between them off = tc, or
4095 - tc when inverted, in 1..4094. -/
def Obligations.LevelEncoding : Prop :=
  ∀ ticks : Half,
    (4095 ≤ ticks.toNat → levelEncode ticks false = (4096#16, 0#16) ∧ levelEncode ticks true = (0#16, 4096#16)) ∧
    (ticks.toNat = 0 → levelEncode ticks false = (0#16, 4096#16) ∧ levelEncode ticks true = (4096#16, 0#16)) ∧
    (0 < ticks.toNat → ticks.toNat < 4095 →
      levelEncode ticks false = (0#16, ticks) ∧
      (levelEncode ticks true).1 = 0#16 ∧ (levelEncode ticks true).2.toNat = 4095 - ticks.toNat ∧
      1 ≤ (levelEncode ticks true).2.toNat ∧ (levelEncode ticks true).2.toNat ≤ 4094)

/-- R135: the encoding of format T; SETTICKS is refused for a channel above 15 under REFUSE, and else is one block
write of the raw pair. -/
def Obligations.SetticksFollowsItsRule : Prop :=
  encodedBy 0xFF0000000000#48 0x500000000000#48
    (fun w => .setticks (w.extractLsb' 32 8) (w.extractLsb' 16 16) (w.extractLsb' 0 16)) ∧
  ∀ (s : State) (ch : Byte) (on off : Half),
    (s.params.channelPolicy = .refuse → 15 < ch.toNat →
      exec (.setticks ch on off) s = .next (s.ended 0 .refused [] none)) ∧
    (s.params.channelPolicy = .wrap8 ∨ ch.toNat ≤ 15 → s.answersAtLeast 1 = true →
      (s.accepts 0 = true → exec (.setticks ch on off) s =
        .next (s.ended 1 .ok [wb s.addr (channelBase ch) (lo on) (hi on) (lo off) (hi off)] none)) ∧
      (s.reply 0 = .failure → exec (.setticks ch on off) s =
        .next (s.ended 1 .transportFailed
          [(wb s.addr (channelBase ch) (lo on) (hi on) (lo off) (hi off)).fail] none)))

/-- R137: the encoding of format P; SETPCT is refused as SETTICKS, and else writes on = 0, off =
percent_to_off(duty), which is never the sentinel. -/
def Obligations.SetpctFollowsItsRule : Prop :=
  encodedBy 0xFF00FFFFFF00#48 0x600000000000#48 (fun w => .setpct (w.extractLsb' 32 8) (w.extractLsb' 0 8)) ∧
  ∀ (s : State) (ch duty : Byte),
    let off := percentToOff duty
    (off.toNat ≤ 4095 ∧ (duty = 0#8 → off = 0#16) ∧ (duty = 255#8 → off = 4095#16)) ∧
    (s.params.channelPolicy = .refuse → 15 < ch.toNat →
      exec (.setpct ch duty) s = .next (s.ended 0 .refused [] none)) ∧
    (s.params.channelPolicy = .wrap8 ∨ ch.toNat ≤ 15 → s.answersAtLeast 1 = true →
      (s.accepts 0 = true → exec (.setpct ch duty) s =
        .next (s.ended 1 .ok [wb s.addr (channelBase ch) 0x00#8 0x00#8 (lo off) (hi off)] none)) ∧
      (s.reply 0 = .failure → exec (.setpct ch duty) s =
        .next (s.ended 1 .transportFailed
          [(wb s.addr (channelBase ch) 0x00#8 0x00#8 (lo off) (hi off)).fail] none)))

/-- R140: the encoding of format L; SETLVL is refused as SETTICKS, and else writes level_encode(ticks, inv). -/
def Obligations.SetlvlFollowsItsRule : Prop :=
  encodedBy 0xFF00FFFE0000#48 0x700000000000#48
    (fun w => .setlvl (w.extractLsb' 32 8) (w.extractLsb' 0 16) (w.getLsbD 16)) ∧
  ∀ (s : State) (ch : Byte) (ticks : Half) (inv : Bool),
    let on := (levelEncode ticks inv).1
    let off := (levelEncode ticks inv).2
    (s.params.channelPolicy = .refuse → 15 < ch.toNat →
      exec (.setlvl ch ticks inv) s = .next (s.ended 0 .refused [] none)) ∧
    (s.params.channelPolicy = .wrap8 ∨ ch.toNat ≤ 15 → s.answersAtLeast 1 = true →
      (s.accepts 0 = true → exec (.setlvl ch ticks inv) s =
        .next (s.ended 1 .ok [wb s.addr (channelBase ch) (lo on) (hi on) (lo off) (hi off)] none)) ∧
      (s.reply 0 = .failure → exec (.setlvl ch ticks inv) s =
        .next (s.ended 1 .transportFailed
          [(wb s.addr (channelBase ch) (lo on) (hi on) (lo off) (hi off)).fail] none)))

/-! ## Register access -/

/-- R170: the encoding of format R; RDREG is one read of any register; the byte goes out on the result port and
nowhere else, and none does after a failure. -/
def Obligations.RdregFollowsItsRule : Prop :=
  encodedBy 0xFFFFFFFF00FF#48 0x800000000000#48 (fun w => .rdreg (w.extractLsb' 8 8)) ∧
  ∀ (s : State) (reg : Byte), s.answersAtLeast 1 = true →
    (∀ v, s.reply 0 = .success v →
      exec (.rdreg reg) s = .next (s.ended 1 .ok [rd s.addr reg v] (some v))) ∧
    (s.reply 0 = .failure →
      exec (.rdreg reg) s = .next (s.ended 1 .transportFailed [⟨s.addr, .read reg, .failed⟩] none))

/-- R171: the encoding of format W; WRREG is one write of any byte to any register, with no delay and no check. -/
def Obligations.WrregFollowsItsRule : Prop :=
  encodedBy 0xFFFFFFFF0000#48 0x900000000000#48 (fun w => .wrreg (w.extractLsb' 8 8) (w.extractLsb' 0 8)) ∧
  ∀ (s : State) (reg val : Byte), s.answersAtLeast 1 = true →
    (s.accepts 0 = true → exec (.wrreg reg val) s = .next (s.ended 1 .ok [wr s.addr reg val] none)) ∧
    (s.reply 0 = .failure →
      exec (.wrreg reg val) s = .next (s.ended 1 .transportFailed [(wr s.addr reg val).fail] none))

/-! ## Rules of the whole machine -/

/-- R24, R26, R31, R47, R48, R49, R180, R181, R183: every step keeps the invariant, from every state that has it: an
idle PSDE holds nothing of a command, the index counts the trace, every block is 4 bytes, atomic and at a start 2 mod
4, every delay is 10 or 5 ms, and every report's status agrees with its trace. -/
def Obligations.StepKeepsInvariant : Prop :=
  ∀ s t : State, s.Inv → step s = .next t → t.Inv

/-- The invariant holds at power-on. -/
def Obligations.ResetMeetsInvariant : Prop := State.reset.Inv

/-- R185, R31: no step erases a report, and a step with a command to run adds exactly one. -/
def Obligations.HistoryIsNeverErased : Prop :=
  ∀ s t : State, step s = .next t →
    (t.history = s.history ∨ ∃ r, t.history = r :: s.history) ∧
    (s.busy = true ∨ s.commands ≠ [] → ∃ r, t.history = r :: s.history)

/-- R20, R21: only CFG writes ADDR; only CFG, SETFREQ and INIT write FREQ. -/
def Obligations.WritersOfAddrAndFreq : Prop :=
  ∀ (i : Instr) (s t : State), exec i s = .next t →
    ((∀ a f, i ≠ .cfg a f) → t.addr = s.addr) ∧
    ((∀ a f, i ≠ .cfg a f) → (∀ f, i ≠ .setfreq f) → i ≠ .init → t.freq = s.freq)

/-- R8, R24, R26 (frame of every command): no command changes the parameters or the host's stream; only SETFREQ and
INIT write the latches; every command ends idle. -/
def Obligations.FrameOfEveryCommand : Prop :=
  ∀ (i : Instr) (s t : State), exec i s = .next t →
    t.params = s.params ∧ t.commands = s.commands ∧ t.busy = false ∧
    ((∀ f, i ≠ .setfreq f) → i ≠ .init → t.oldMode = s.oldMode ∧ t.presc = s.presc)

/-- R29, R20: every record of a command's trace carries the ADDR it began with. -/
def Obligations.EveryRequestCarriesAddr : Prop :=
  ∀ (i : Instr) (s t : State), exec i s = .next t →
    ∃ r, t.history = r :: s.history ∧ ∀ x ∈ r.trace, x.device = s.addr

/-- R180, R184: when a step ends REFUSED, no transaction was issued and no register, latch or answer was touched. -/
def Obligations.RefusedTouchesNothing : Prop :=
  ∀ (s t : State) (r : Report), s.busy = false → step s = .next t → t.history = r :: s.history →
    r.status = .refused →
    r.trace = [] ∧ r.result = none ∧ t.addr = s.addr ∧ t.freq = s.freq ∧ t.oldMode = s.oldMode ∧
    t.presc = s.presc ∧ t.draws = s.draws ∧ t.answers = s.answers ∧ t.busy = false

/-- R26: the latches are dead between commands: what a step from an idle state does, apart from the latches, does not
depend on what they held. -/
def Obligations.LatchesAreDeadBetweenCommands : Prop :=
  ∀ (s : State) (a b : Byte), s.busy = false →
    outcomeWithoutLatches (step ((s.setOldMode a).setPresc b)) = outcomeWithoutLatches (step s)

/-- R24, R51: running a command to its status is the same as doing its lines one at a time until it has ended. -/
def Obligations.CommandIsItsTransactionsInOrder : Prop :=
  ∀ s : State, s.busy = true → s.advanceTimes (s.pending.length + 1) = s.drive s.pending

/-- R51: one line of a running command issues at most one request, behind all those before it, and asks the transport
at most once. -/
def Obligations.OneRequestAtATime : Prop :=
  ∀ s : State, s.busy = true →
    (s.draws ≤ s.advance.draws ∧ s.advance.draws ≤ s.draws + 1) ∧
    ∃ x : List Record, x.length ≤ 1 ∧
      ((s.advance.busy = true ∧ s.advance.trace = s.trace ++ x ∧ s.advance.history = s.history) ∨
       (s.advance.busy = false ∧ ∃ r, s.advance.history = r :: s.history ∧ r.trace = s.trace ++ x))

/-- R211: in SETFREQ and INIT every PRESCALE write comes right after a MODE1 write that sets sleep, however the
command ended. -/
def Obligations.PrescaleWrittenOnlyAsleep : Prop :=
  ∀ (i : Instr) (s t : State), ((∃ f, i = .setfreq f) ∨ i = .init) → exec i s = .next t →
    ∃ r, t.history = r :: s.history ∧ prescaleAsleep false r.trace = true

/-- R210, first part: in RST and INIT the reset write comes first and, if it succeeded, Delay(10) comes right after. -/
def Obligations.ResetWriteIsFollowedByDelay : Prop :=
  ∀ (i : Instr) (s t : State), (i = .rst ∨ i = .init) → exec i s = .next t →
    ∃ r rest, t.history = r :: s.history ∧
      ((s.accepts 0 = true ∧ r.trace = wr s.addr 0x00#8 0x80#8 :: dly s.addr 10#32 :: rest) ∨
       (s.reply 0 = .failure ∧ r.trace = [(wr s.addr 0x00#8 0x80#8).fail]))

/-- R210, the host's duty as the model keeps it (log 8, a reading of the rule): after WRREG sets bit 7 of MODE1 the
wait is owed; it stays owed over commands that issue nothing, and the host has waited 10 ms before the next command
that reaches the chip; no other command has a wait before it. The debt names no device: a command that a CFG has pointed at
another ADDR pays it too. -/
def Obligations.HostWaitsAfterBareResetWrite : Prop :=
  (∀ (s t : State) (val : Byte), val.getLsbD 7 = true → exec (.wrreg 0x00#8 val) s = .next t →
    t.settleOwed = true) ∧
  (∀ (i : Instr) (s t : State), exec i s = .next t →
    ∃ r, t.history = r :: s.history ∧
      (r.trace = [] → t.settleOwed = s.settleOwed ∧ r.hostWait = 0) ∧
      (r.trace ≠ [] → s.settleOwed = true → r.hostWait = 10) ∧
      (s.settleOwed = false → r.hostWait = 0))

/-- R182 and item 17 of 93_implementation_defined.md: the model refuses no command, and a command is stuck only when
the transport has fallen silent with fewer answers left than the command makes requests. -/
def Obligations.CommandsStopOnlyForSilence : Prop :=
  ∀ (i : Instr) (s : State),
    (∀ r, exec i s ≠ .refused r) ∧
    (∀ f, exec i s = .fault f → ∃ n, s.silentAfter = some n ∧ n < requestCount s.params i) ∧
    (s.silentAfter = none → ∃ t, exec i s = .next t)

/-- Item 17 of 93_implementation_defined.md (log 3): a command whose requests succeed until the transport falls silent
before its last one is stuck. -/
def Obligations.SilentTransportLeavesCommandStuck : Prop :=
  ∀ (i : Instr) (s : State) (n : Nat), s.silentAfter = some n → (∀ j, j < n → s.accepts j = true) →
    n < requestCount s.params i → exec i s = .fault .transportSilent

/-- R220, R189: the delays of a successful command add up to 10 ms for RST, 5 for SETFREQ, 15 for INIT, 0 for the
others. -/
def Obligations.MinimumDelays : Prop :=
  ∀ (i : Instr) (s t : State) (r : Report), exec i s = .next t → t.history = r :: s.history → r.status = .ok →
    r.delayTotal = (match i with | .rst => 10 | .setfreq _ => 5 | .init => 15 | _ => 0)

/-- R216, R219 (the boot premise, as Safety states it): a SETFREQ or INIT that ends OK boots; no other command does;
no step takes it back. -/
def Obligations.BootedAfterSuccessfulReconfiguration : Prop :=
  (∀ (i : Instr) (s t : State) (r : Report), exec i s = .next t → t.history = r :: s.history →
    (r.configured = true ↔ r.status = .ok ∧ ((∃ f, i = .setfreq f) ∨ i = .init))) ∧
  (∀ s t : State, s.booted = true → step s = .next t → t.booted = true)

/-! ## Status codes -/

/-- R180, R181: the code of REFUSED is 1, of TRANSPORT_FAILED 2 and of OK 0; no two statuses share one. -/
def Obligations.StatusCodes : Prop :=
  Status.ok.code = 0 ∧ Status.refused.code = 1 ∧ Status.transportFailed.code = 2 ∧
  ∀ a b : Status, a.code = b.code → a = b
end

