-- ==== Sys2Proof/Laws/Decode.lean ====
section
/-! SUPPORT. What the decoder says of a word: one lemma each way. -/

namespace Sys2Proof

/-- A word of an assigned op whose reserved bits are 0 decodes to the command its fields give. -/
theorem decode_of_mask {w : Word48} {op : Nat} {mask : Word48} {i : Instr} (hop : opOf w = op)
    (hm : maskOf op = some mask) (hi : operandsOf op w = some i) (hw : w &&& mask = matchOf op) :
    decode w = .ok i := by
  subst hop
  simp [decode, hm, hi, hw]

/-- A word that decodes has an assigned op, no reserved bit set, and its operands in its fields. -/
theorem decode_ok {w : Word48} {i : Instr} (h : decode w = .ok i) :
    ∃ mask, maskOf (opOf w) = some mask ∧ operandsOf (opOf w) w = some i ∧ w &&& mask = matchOf (opOf w) := by
  unfold decode at h
  split at h
  · rename_i mask j hm hj
    split at h
    · cases h; exact ⟨mask, hm, hj, ‹_›⟩
    · cases h
  · cases h

/-- An unassigned op is rejected by that name, whatever the other bits hold. -/
theorem decode_unassigned {w : Word48} (h : maskOf (opOf w) = none) : decode w = .error .unassignedOp := by
  simp [decode, h]

/-- The assigned op values. -/
theorem maskOf_eq_none {op : Nat} : maskOf op = none ↔ op = 0 ∨ 10 ≤ op := by
  constructor
  · intro h
    by_contra hc
    have : 1 ≤ op ∧ op ≤ 9 := by omega
    obtain ⟨h1, h2⟩ := this
    interval_cases op <;> simp [maskOf] at h
  · intro h
    unfold maskOf
    split <;> first | rfl | omega

end Sys2Proof
end

