-- ==== Sys2Proof/Laws/State.lean ====
section
/-! SUPPORT. Each field after each shared update of the state, so that no proof unfolds an update. -/

namespace Sys2Proof.Machine

/-! ## Writing ADDR -/

@[simp] theorem State.setAddr_addr (s : State) (v : Byte) : (s.setAddr v).addr = v := rfl
@[simp] theorem State.setAddr_freq (s : State) (v : Byte) : (s.setAddr v).freq = s.freq := rfl
@[simp] theorem State.setAddr_busy (s : State) (v : Byte) : (s.setAddr v).busy = s.busy := rfl
@[simp] theorem State.setAddr_oldMode (s : State) (v : Byte) : (s.setAddr v).oldMode = s.oldMode := rfl
@[simp] theorem State.setAddr_presc (s : State) (v : Byte) : (s.setAddr v).presc = s.presc := rfl
@[simp] theorem State.setAddr_index (s : State) (v : Byte) : (s.setAddr v).index = s.index := rfl
@[simp] theorem State.setAddr_pending (s : State) (v : Byte) : (s.setAddr v).pending = s.pending := rfl
@[simp] theorem State.setAddr_trace (s : State) (v : Byte) : (s.setAddr v).trace = s.trace := rfl
@[simp] theorem State.setAddr_result (s : State) (v : Byte) : (s.setAddr v).result = s.result := rfl
@[simp] theorem State.setAddr_history (s : State) (v : Byte) : (s.setAddr v).history = s.history := rfl
@[simp] theorem State.setAddr_commands (s : State) (v : Byte) : (s.setAddr v).commands = s.commands := rfl
@[simp] theorem State.setAddr_answers (s : State) (v : Byte) : (s.setAddr v).answers = s.answers := rfl
@[simp] theorem State.setAddr_draws (s : State) (v : Byte) : (s.setAddr v).draws = s.draws := rfl
@[simp] theorem State.setAddr_silentAfter (s : State) (v : Byte) : (s.setAddr v).silentAfter = s.silentAfter := rfl
@[simp] theorem State.setAddr_settleOwed (s : State) (v : Byte) : (s.setAddr v).settleOwed = s.settleOwed := rfl
@[simp] theorem State.setAddr_params (s : State) (v : Byte) : (s.setAddr v).params = s.params := rfl

/-! ## Writing FREQ -/

@[simp] theorem State.setFreq_addr (s : State) (v : Half) : (s.setFreq v).addr = s.addr := rfl
@[simp] theorem State.setFreq_freq (s : State) (v : Half) : (s.setFreq v).freq = v := rfl
@[simp] theorem State.setFreq_busy (s : State) (v : Half) : (s.setFreq v).busy = s.busy := rfl
@[simp] theorem State.setFreq_oldMode (s : State) (v : Half) : (s.setFreq v).oldMode = s.oldMode := rfl
@[simp] theorem State.setFreq_presc (s : State) (v : Half) : (s.setFreq v).presc = s.presc := rfl
@[simp] theorem State.setFreq_index (s : State) (v : Half) : (s.setFreq v).index = s.index := rfl
@[simp] theorem State.setFreq_pending (s : State) (v : Half) : (s.setFreq v).pending = s.pending := rfl
@[simp] theorem State.setFreq_trace (s : State) (v : Half) : (s.setFreq v).trace = s.trace := rfl
@[simp] theorem State.setFreq_result (s : State) (v : Half) : (s.setFreq v).result = s.result := rfl
@[simp] theorem State.setFreq_history (s : State) (v : Half) : (s.setFreq v).history = s.history := rfl
@[simp] theorem State.setFreq_commands (s : State) (v : Half) : (s.setFreq v).commands = s.commands := rfl
@[simp] theorem State.setFreq_answers (s : State) (v : Half) : (s.setFreq v).answers = s.answers := rfl
@[simp] theorem State.setFreq_draws (s : State) (v : Half) : (s.setFreq v).draws = s.draws := rfl
@[simp] theorem State.setFreq_silentAfter (s : State) (v : Half) : (s.setFreq v).silentAfter = s.silentAfter := rfl
@[simp] theorem State.setFreq_settleOwed (s : State) (v : Half) : (s.setFreq v).settleOwed = s.settleOwed := rfl
@[simp] theorem State.setFreq_params (s : State) (v : Half) : (s.setFreq v).params = s.params := rfl

/-! ## Writing the latch oldMode -/

@[simp] theorem State.setOldMode_addr (s : State) (v : Byte) : (s.setOldMode v).addr = s.addr := rfl
@[simp] theorem State.setOldMode_freq (s : State) (v : Byte) : (s.setOldMode v).freq = s.freq := rfl
@[simp] theorem State.setOldMode_busy (s : State) (v : Byte) : (s.setOldMode v).busy = s.busy := rfl
@[simp] theorem State.setOldMode_oldMode (s : State) (v : Byte) : (s.setOldMode v).oldMode = v := rfl
@[simp] theorem State.setOldMode_presc (s : State) (v : Byte) : (s.setOldMode v).presc = s.presc := rfl
@[simp] theorem State.setOldMode_index (s : State) (v : Byte) : (s.setOldMode v).index = s.index := rfl
@[simp] theorem State.setOldMode_pending (s : State) (v : Byte) : (s.setOldMode v).pending = s.pending := rfl
@[simp] theorem State.setOldMode_trace (s : State) (v : Byte) : (s.setOldMode v).trace = s.trace := rfl
@[simp] theorem State.setOldMode_result (s : State) (v : Byte) : (s.setOldMode v).result = s.result := rfl
@[simp] theorem State.setOldMode_history (s : State) (v : Byte) : (s.setOldMode v).history = s.history := rfl
@[simp] theorem State.setOldMode_commands (s : State) (v : Byte) : (s.setOldMode v).commands = s.commands := rfl
@[simp] theorem State.setOldMode_answers (s : State) (v : Byte) : (s.setOldMode v).answers = s.answers := rfl
@[simp] theorem State.setOldMode_draws (s : State) (v : Byte) : (s.setOldMode v).draws = s.draws := rfl
@[simp] theorem State.setOldMode_silentAfter (s : State) (v : Byte) : (s.setOldMode v).silentAfter = s.silentAfter := rfl
@[simp] theorem State.setOldMode_settleOwed (s : State) (v : Byte) : (s.setOldMode v).settleOwed = s.settleOwed := rfl
@[simp] theorem State.setOldMode_params (s : State) (v : Byte) : (s.setOldMode v).params = s.params := rfl

/-! ## Writing the latch presc -/

@[simp] theorem State.setPresc_addr (s : State) (v : Byte) : (s.setPresc v).addr = s.addr := rfl
@[simp] theorem State.setPresc_freq (s : State) (v : Byte) : (s.setPresc v).freq = s.freq := rfl
@[simp] theorem State.setPresc_busy (s : State) (v : Byte) : (s.setPresc v).busy = s.busy := rfl
@[simp] theorem State.setPresc_oldMode (s : State) (v : Byte) : (s.setPresc v).oldMode = s.oldMode := rfl
@[simp] theorem State.setPresc_presc (s : State) (v : Byte) : (s.setPresc v).presc = v := rfl
@[simp] theorem State.setPresc_index (s : State) (v : Byte) : (s.setPresc v).index = s.index := rfl
@[simp] theorem State.setPresc_pending (s : State) (v : Byte) : (s.setPresc v).pending = s.pending := rfl
@[simp] theorem State.setPresc_trace (s : State) (v : Byte) : (s.setPresc v).trace = s.trace := rfl
@[simp] theorem State.setPresc_result (s : State) (v : Byte) : (s.setPresc v).result = s.result := rfl
@[simp] theorem State.setPresc_history (s : State) (v : Byte) : (s.setPresc v).history = s.history := rfl
@[simp] theorem State.setPresc_commands (s : State) (v : Byte) : (s.setPresc v).commands = s.commands := rfl
@[simp] theorem State.setPresc_answers (s : State) (v : Byte) : (s.setPresc v).answers = s.answers := rfl
@[simp] theorem State.setPresc_draws (s : State) (v : Byte) : (s.setPresc v).draws = s.draws := rfl
@[simp] theorem State.setPresc_silentAfter (s : State) (v : Byte) : (s.setPresc v).silentAfter = s.silentAfter := rfl
@[simp] theorem State.setPresc_settleOwed (s : State) (v : Byte) : (s.setPresc v).settleOwed = s.settleOwed := rfl
@[simp] theorem State.setPresc_params (s : State) (v : Byte) : (s.setPresc v).params = s.params := rfl

/-! ## Holding a result byte -/

@[simp] theorem State.setResult_addr (s : State) (v : Byte) : (s.setResult v).addr = s.addr := rfl
@[simp] theorem State.setResult_freq (s : State) (v : Byte) : (s.setResult v).freq = s.freq := rfl
@[simp] theorem State.setResult_busy (s : State) (v : Byte) : (s.setResult v).busy = s.busy := rfl
@[simp] theorem State.setResult_oldMode (s : State) (v : Byte) : (s.setResult v).oldMode = s.oldMode := rfl
@[simp] theorem State.setResult_presc (s : State) (v : Byte) : (s.setResult v).presc = s.presc := rfl
@[simp] theorem State.setResult_index (s : State) (v : Byte) : (s.setResult v).index = s.index := rfl
@[simp] theorem State.setResult_pending (s : State) (v : Byte) : (s.setResult v).pending = s.pending := rfl
@[simp] theorem State.setResult_trace (s : State) (v : Byte) : (s.setResult v).trace = s.trace := rfl
@[simp] theorem State.setResult_result (s : State) (v : Byte) : (s.setResult v).result = some v := rfl
@[simp] theorem State.setResult_history (s : State) (v : Byte) : (s.setResult v).history = s.history := rfl
@[simp] theorem State.setResult_commands (s : State) (v : Byte) : (s.setResult v).commands = s.commands := rfl
@[simp] theorem State.setResult_answers (s : State) (v : Byte) : (s.setResult v).answers = s.answers := rfl
@[simp] theorem State.setResult_draws (s : State) (v : Byte) : (s.setResult v).draws = s.draws := rfl
@[simp] theorem State.setResult_silentAfter (s : State) (v : Byte) : (s.setResult v).silentAfter = s.silentAfter := rfl
@[simp] theorem State.setResult_settleOwed (s : State) (v : Byte) : (s.setResult v).settleOwed = s.settleOwed := rfl
@[simp] theorem State.setResult_params (s : State) (v : Byte) : (s.setResult v).params = s.params := rfl

/-! ## Moving on in the rule -/

@[simp] theorem State.setPending_addr (s : State) (v : List Action) : (s.setPending v).addr = s.addr := rfl
@[simp] theorem State.setPending_freq (s : State) (v : List Action) : (s.setPending v).freq = s.freq := rfl
@[simp] theorem State.setPending_busy (s : State) (v : List Action) : (s.setPending v).busy = s.busy := rfl
@[simp] theorem State.setPending_oldMode (s : State) (v : List Action) : (s.setPending v).oldMode = s.oldMode := rfl
@[simp] theorem State.setPending_presc (s : State) (v : List Action) : (s.setPending v).presc = s.presc := rfl
@[simp] theorem State.setPending_index (s : State) (v : List Action) : (s.setPending v).index = s.index := rfl
@[simp] theorem State.setPending_pending (s : State) (v : List Action) : (s.setPending v).pending = v := rfl
@[simp] theorem State.setPending_trace (s : State) (v : List Action) : (s.setPending v).trace = s.trace := rfl
@[simp] theorem State.setPending_result (s : State) (v : List Action) : (s.setPending v).result = s.result := rfl
@[simp] theorem State.setPending_history (s : State) (v : List Action) : (s.setPending v).history = s.history := rfl
@[simp] theorem State.setPending_commands (s : State) (v : List Action) : (s.setPending v).commands = s.commands := rfl
@[simp] theorem State.setPending_answers (s : State) (v : List Action) : (s.setPending v).answers = s.answers := rfl
@[simp] theorem State.setPending_draws (s : State) (v : List Action) : (s.setPending v).draws = s.draws := rfl
@[simp] theorem State.setPending_silentAfter (s : State) (v : List Action) : (s.setPending v).silentAfter = s.silentAfter := rfl
@[simp] theorem State.setPending_settleOwed (s : State) (v : List Action) : (s.setPending v).settleOwed = s.settleOwed := rfl
@[simp] theorem State.setPending_params (s : State) (v : List Action) : (s.setPending v).params = s.params := rfl

/-! ## Taking an answer -/

@[simp] theorem State.takeAnswer_addr (s : State) : s.takeAnswer.addr = s.addr := rfl
@[simp] theorem State.takeAnswer_freq (s : State) : s.takeAnswer.freq = s.freq := rfl
@[simp] theorem State.takeAnswer_busy (s : State) : s.takeAnswer.busy = s.busy := rfl
@[simp] theorem State.takeAnswer_oldMode (s : State) : s.takeAnswer.oldMode = s.oldMode := rfl
@[simp] theorem State.takeAnswer_presc (s : State) : s.takeAnswer.presc = s.presc := rfl
@[simp] theorem State.takeAnswer_index (s : State) : s.takeAnswer.index = s.index := rfl
@[simp] theorem State.takeAnswer_pending (s : State) : s.takeAnswer.pending = s.pending := rfl
@[simp] theorem State.takeAnswer_trace (s : State) : s.takeAnswer.trace = s.trace := rfl
@[simp] theorem State.takeAnswer_result (s : State) : s.takeAnswer.result = s.result := rfl
@[simp] theorem State.takeAnswer_history (s : State) : s.takeAnswer.history = s.history := rfl
@[simp] theorem State.takeAnswer_commands (s : State) : s.takeAnswer.commands = s.commands := rfl
@[simp] theorem State.takeAnswer_answers (s : State) : s.takeAnswer.answers = s.answers.tail := rfl
@[simp] theorem State.takeAnswer_draws (s : State) : s.takeAnswer.draws = s.draws + 1 := rfl
@[simp] theorem State.takeAnswer_silentAfter (s : State) : s.takeAnswer.silentAfter = s.silentAfter := rfl
@[simp] theorem State.takeAnswer_settleOwed (s : State) : s.takeAnswer.settleOwed = s.settleOwed := rfl
@[simp] theorem State.takeAnswer_params (s : State) : s.takeAnswer.params = s.params := rfl

/-! ## Recording a request -/

@[simp] theorem State.record_addr (s : State) (r : Request) (c : Completion) : (s.record r c).addr = s.addr := rfl
@[simp] theorem State.record_freq (s : State) (r : Request) (c : Completion) : (s.record r c).freq = s.freq := rfl
@[simp] theorem State.record_busy (s : State) (r : Request) (c : Completion) : (s.record r c).busy = s.busy := rfl
@[simp] theorem State.record_oldMode (s : State) (r : Request) (c : Completion) : (s.record r c).oldMode = s.oldMode := rfl
@[simp] theorem State.record_presc (s : State) (r : Request) (c : Completion) : (s.record r c).presc = s.presc := rfl
@[simp] theorem State.record_index (s : State) (r : Request) (c : Completion) : (s.record r c).index = s.index + 1 := rfl
@[simp] theorem State.record_pending (s : State) (r : Request) (c : Completion) : (s.record r c).pending = s.pending := rfl
@[simp] theorem State.record_trace (s : State) (r : Request) (c : Completion) : (s.record r c).trace = s.trace ++ [⟨s.addr, r, c⟩] := rfl
@[simp] theorem State.record_result (s : State) (r : Request) (c : Completion) : (s.record r c).result = s.result := rfl
@[simp] theorem State.record_history (s : State) (r : Request) (c : Completion) : (s.record r c).history = s.history := rfl
@[simp] theorem State.record_commands (s : State) (r : Request) (c : Completion) : (s.record r c).commands = s.commands := rfl
@[simp] theorem State.record_answers (s : State) (r : Request) (c : Completion) : (s.record r c).answers = s.answers := rfl
@[simp] theorem State.record_draws (s : State) (r : Request) (c : Completion) : (s.record r c).draws = s.draws := rfl
@[simp] theorem State.record_silentAfter (s : State) (r : Request) (c : Completion) : (s.record r c).silentAfter = s.silentAfter := rfl
@[simp] theorem State.record_settleOwed (s : State) (r : Request) (c : Completion) : (s.record r c).settleOwed = s.settleOwed := rfl
@[simp] theorem State.record_params (s : State) (r : Request) (c : Completion) : (s.record r c).params = s.params := rfl

/-! ## Accepting a command -/

@[simp] theorem State.start_addr (s : State) (body : List Action) : (s.start body).addr = s.addr := rfl
@[simp] theorem State.start_freq (s : State) (body : List Action) : (s.start body).freq = s.freq := rfl
@[simp] theorem State.start_busy (s : State) (body : List Action) : (s.start body).busy = true := rfl
@[simp] theorem State.start_oldMode (s : State) (body : List Action) : (s.start body).oldMode = s.oldMode := rfl
@[simp] theorem State.start_presc (s : State) (body : List Action) : (s.start body).presc = s.presc := rfl
@[simp] theorem State.start_index (s : State) (body : List Action) : (s.start body).index = 0 := rfl
@[simp] theorem State.start_pending (s : State) (body : List Action) : (s.start body).pending = body := rfl
@[simp] theorem State.start_trace (s : State) (body : List Action) : (s.start body).trace = [] := rfl
@[simp] theorem State.start_result (s : State) (body : List Action) : (s.start body).result = none := rfl
@[simp] theorem State.start_history (s : State) (body : List Action) : (s.start body).history = s.history := rfl
@[simp] theorem State.start_commands (s : State) (body : List Action) : (s.start body).commands = s.commands := rfl
@[simp] theorem State.start_answers (s : State) (body : List Action) : (s.start body).answers = s.answers := rfl
@[simp] theorem State.start_draws (s : State) (body : List Action) : (s.start body).draws = s.draws := rfl
@[simp] theorem State.start_silentAfter (s : State) (body : List Action) : (s.start body).silentAfter = s.silentAfter := rfl
@[simp] theorem State.start_settleOwed (s : State) (body : List Action) : (s.start body).settleOwed = s.settleOwed := rfl
@[simp] theorem State.start_params (s : State) (body : List Action) : (s.start body).params = s.params := rfl

/-! ## Ending a command -/

@[simp] theorem State.finish_addr (s : State) (status : Status) : (s.finish status).addr = s.addr := rfl
@[simp] theorem State.finish_freq (s : State) (status : Status) : (s.finish status).freq = s.freq := rfl
@[simp] theorem State.finish_busy (s : State) (status : Status) : (s.finish status).busy = false := rfl
@[simp] theorem State.finish_oldMode (s : State) (status : Status) : (s.finish status).oldMode = s.oldMode := rfl
@[simp] theorem State.finish_presc (s : State) (status : Status) : (s.finish status).presc = s.presc := rfl
@[simp] theorem State.finish_index (s : State) (status : Status) : (s.finish status).index = 0 := rfl
@[simp] theorem State.finish_pending (s : State) (status : Status) : (s.finish status).pending = [] := rfl
@[simp] theorem State.finish_trace (s : State) (status : Status) : (s.finish status).trace = [] := rfl
@[simp] theorem State.finish_result (s : State) (status : Status) : (s.finish status).result = none := rfl
@[simp] theorem State.finish_history (s : State) (status : Status) : (s.finish status).history = ⟨s.trace, status, if status = .ok then s.result else none, s.hostWait s.trace⟩ :: s.history := rfl
@[simp] theorem State.finish_commands (s : State) (status : Status) : (s.finish status).commands = s.commands := rfl
@[simp] theorem State.finish_answers (s : State) (status : Status) : (s.finish status).answers = s.answers := rfl
@[simp] theorem State.finish_draws (s : State) (status : Status) : (s.finish status).draws = s.draws := rfl
@[simp] theorem State.finish_silentAfter (s : State) (status : Status) : (s.finish status).silentAfter = s.silentAfter := rfl
@[simp] theorem State.finish_settleOwed (s : State) (status : Status) : (s.finish status).settleOwed = if s.trace.isEmpty then s.settleOwed else leavesSettleOwed s.trace := rfl
@[simp] theorem State.finish_params (s : State) (status : Status) : (s.finish status).params = s.params := rfl

/-! ## Refusing a command -/

@[simp] theorem State.refuse_addr (s : State) : s.refuse.addr = s.addr := rfl
@[simp] theorem State.refuse_freq (s : State) : s.refuse.freq = s.freq := rfl
@[simp] theorem State.refuse_busy (s : State) : s.refuse.busy = false := rfl
@[simp] theorem State.refuse_oldMode (s : State) : s.refuse.oldMode = s.oldMode := rfl
@[simp] theorem State.refuse_presc (s : State) : s.refuse.presc = s.presc := rfl
@[simp] theorem State.refuse_index (s : State) : s.refuse.index = 0 := rfl
@[simp] theorem State.refuse_pending (s : State) : s.refuse.pending = [] := rfl
@[simp] theorem State.refuse_trace (s : State) : s.refuse.trace = [] := rfl
@[simp] theorem State.refuse_result (s : State) : s.refuse.result = none := rfl
@[simp] theorem State.refuse_history (s : State) :
    s.refuse.history = ⟨[], .refused, none, 0⟩ :: s.history := by
  simp [State.refuse, State.start, State.finish, State.hostWait]

@[simp] theorem State.refuse_commands (s : State) : s.refuse.commands = s.commands := rfl
@[simp] theorem State.refuse_answers (s : State) : s.refuse.answers = s.answers := rfl
@[simp] theorem State.refuse_draws (s : State) : s.refuse.draws = s.draws := rfl
@[simp] theorem State.refuse_silentAfter (s : State) : s.refuse.silentAfter = s.silentAfter := rfl
@[simp] theorem State.refuse_settleOwed (s : State) : s.refuse.settleOwed = s.settleOwed := rfl
@[simp] theorem State.refuse_params (s : State) : s.refuse.params = s.params := rfl

/-! ## Presenting a word -/

@[simp] theorem State.present_addr (s : State) (w : Word48) : (s.present w).addr = s.addr := rfl
@[simp] theorem State.present_freq (s : State) (w : Word48) : (s.present w).freq = s.freq := rfl
@[simp] theorem State.present_busy (s : State) (w : Word48) : (s.present w).busy = false := rfl
@[simp] theorem State.present_oldMode (s : State) (w : Word48) : (s.present w).oldMode = s.oldMode := rfl
@[simp] theorem State.present_presc (s : State) (w : Word48) : (s.present w).presc = s.presc := rfl
@[simp] theorem State.present_index (s : State) (w : Word48) : (s.present w).index = s.index := rfl
@[simp] theorem State.present_pending (s : State) (w : Word48) : (s.present w).pending = s.pending := rfl
@[simp] theorem State.present_trace (s : State) (w : Word48) : (s.present w).trace = s.trace := rfl
@[simp] theorem State.present_result (s : State) (w : Word48) : (s.present w).result = s.result := rfl
@[simp] theorem State.present_history (s : State) (w : Word48) : (s.present w).history = s.history := rfl
@[simp] theorem State.present_commands (s : State) (w : Word48) : (s.present w).commands = w :: s.commands := rfl
@[simp] theorem State.present_answers (s : State) (w : Word48) : (s.present w).answers = s.answers := rfl
@[simp] theorem State.present_draws (s : State) (w : Word48) : (s.present w).draws = s.draws := rfl
@[simp] theorem State.present_silentAfter (s : State) (w : Word48) : (s.present w).silentAfter = s.silentAfter := rfl
@[simp] theorem State.present_settleOwed (s : State) (w : Word48) : (s.present w).settleOwed = s.settleOwed := rfl
@[simp] theorem State.present_params (s : State) (w : Word48) : (s.present w).params = s.params := rfl

end Sys2Proof.Machine
end

