-- ==== Sys2Proof/Laws/Ops.lean ====
section
/-! SUPPORT. What each shared operation can do, said once: the transport's answers, one line of a rule,
running a command to its end, the outcome. -/

namespace Sys2Proof.Machine

open Sys2Proof.Config

/-! ## Answers -/

theorem State.reply_congr {s t : State} (ha : t.answers = s.answers) (hd : t.draws = s.draws) (k : Nat) :
    t.reply k = s.reply k := by
  simp [State.reply, ha, hd]

@[simp] theorem State.reply_takeAnswer (s : State) (k : Nat) : s.takeAnswer.reply k = s.reply (k + 1) := by
  simp [State.reply, Nat.add_assoc, Nat.add_comm k 1]

@[simp] theorem State.reply_record (s : State) (r : Request) (c : Completion) (k : Nat) :
    (s.record r c).reply k = s.reply k := rfl

@[simp] theorem State.reply_start (s : State) (body : List Action) (k : Nat) :
    (s.start body).reply k = s.reply k := rfl

@[simp] theorem State.reply_setAddr (s : State) (a : Byte) (k : Nat) : (s.setAddr a).reply k = s.reply k := rfl
@[simp] theorem State.reply_setFreq (s : State) (f : Half) (k : Nat) : (s.setFreq f).reply k = s.reply k := rfl
@[simp] theorem State.reply_setOldMode (s : State) (m : Byte) (k : Nat) : (s.setOldMode m).reply k = s.reply k := rfl
@[simp] theorem State.reply_setPresc (s : State) (p : Byte) (k : Nat) : (s.setPresc p).reply k = s.reply k := rfl
@[simp] theorem State.reply_setResult (s : State) (v : Byte) (k : Nat) : (s.setResult v).reply k = s.reply k := rfl
@[simp] theorem State.reply_setPending (s : State) (rest : List Action) (k : Nat) :
    (s.setPending rest).reply k = s.reply k := rfl

theorem State.accepts_eq_true {s : State} {k : Nat} : s.accepts k = true ↔ ∃ b, s.reply k = .success b := by
  unfold State.accepts
  cases s.reply k <;> simp

/-! ## Requests -/

theorem State.send_success {s : State} {b : Byte} (h : s.reply 0 = .success b) (r : Request) :
    s.send r = .ok (s.takeAnswer.record r .done) := by
  simp [State.send, h]

theorem State.send_failure {s : State} (h : s.reply 0 = .failure) (r : Request) :
    s.send r = .error (s.takeAnswer.record r .failed) := by
  simp [State.send, h]

theorem State.fetchByte_success {s : State} {b : Byte} (h : s.reply 0 = .success b) (reg : Byte) :
    s.fetchByte reg = .ok (b, s.takeAnswer.record (.read reg) (.value b)) := by
  simp [State.fetchByte, h]

theorem State.fetchByte_failure {s : State} (h : s.reply 0 = .failure) (reg : Byte) :
    s.fetchByte reg = .error (s.takeAnswer.record (.read reg) .failed) := by
  simp [State.fetchByte, h]

/-- What one line of a rule can do when it succeeds: write a register or a latch without a request, or issue
one request, which completed, after taking an answer for it if it went to the transport. -/
theorem State.perform_ok {s t : State} {a : Action} (h : s.perform a = .ok t) :
    (∃ addr, a = .loadAddr addr ∧ t = s.setAddr addr) ∨
    (∃ freq, a = .loadFreq freq ∧ t = s.setFreq freq) ∨
    (∃ f, a = .clampFreq f ∧ t = s.setFreq (clampFreq (f.getD s.freq))) ∨
    (a = .computePresc ∧ t = s.setPresc (prescaleByte s.params s.freq.toNat)) ∨
    (∃ v, a = .readMode ∧ s.reply 0 = .success v ∧
      t = (s.takeAnswer.record (.read mode1) (.value v)).setOldMode v) ∨
    (∃ reg v, a = .readReg reg ∧ s.reply 0 = .success v ∧
      t = (s.takeAnswer.record (.read reg) (.value v)).setResult v) ∨
    (∃ reg src, a = .writeReg reg src ∧ t = s.takeAnswer.record (.write reg (s.sourceByte src)) .done) ∨
    (∃ start data, a = .writeBlock start data ∧
      t = s.takeAnswer.record (.block start (BitVec.ofNat 8 data.length) data true) .done) ∨
    (∃ ms, a = .delay ms ∧ t = s.record (.delay ms) .done) := by
  cases a <;> simp only [State.perform, State.send, State.fetchByte] at h
  case readMode => cases hr : s.reply 0 <;> simp_all
  case readReg => cases hr : s.reply 0 <;> simp_all
  case writeReg => cases hr : s.reply 0 <;> simp_all
  case writeBlock => cases hr : s.reply 0 <;> simp_all
  all_goals simp_all

/-- When a line of a rule fails, one request has been issued and the transport failed it. -/
theorem State.perform_error {s t : State} {a : Action} (h : s.perform a = .error t) :
    s.reply 0 = .failure ∧ ∃ r, t = s.takeAnswer.record r .failed ∧
      ((a = .readMode ∧ r = .read mode1) ∨ (∃ reg, a = .readReg reg ∧ r = .read reg) ∨
       (∃ reg src, a = .writeReg reg src ∧ r = .write reg (s.sourceByte src)) ∨
       (∃ start data, a = .writeBlock start data ∧
        r = .block start (BitVec.ofNat 8 data.length) data true)) := by
  cases a <;> simp only [State.perform, State.send, State.fetchByte] at h
  case readMode => cases hr : s.reply 0 <;> simp_all
  case readReg => cases hr : s.reply 0 <;> simp_all
  case writeReg => cases hr : s.reply 0 <;> simp_all
  case writeBlock => cases hr : s.reply 0 <;> simp_all
  all_goals simp_all

/-! ## Running -/

@[simp] theorem State.drive_nil (s : State) : s.drive [] = s.finish .ok := rfl

theorem State.drive_cons_ok {s t : State} {a : Action} {rest : List Action}
    (h : (s.setPending rest).perform a = .ok t) : s.drive (a :: rest) = t.drive rest := by
  simp [State.drive, h]

theorem State.drive_cons_error {s t : State} {a : Action} {rest : List Action}
    (h : (s.setPending rest).perform a = .error t) : s.drive (a :: rest) = t.finish .transportFailed := by
  simp [State.drive, h]

/-- The one induction over running lines: what each line keeps, and each ending turns into `Q`, holds where the
command has ended. -/
theorem State.drive_induct {P Q : State → Prop} (body : List Action) (s : State) (h : P s)
    (hend : ∀ u, P u → Q (u.finish .ok))
    (hok : ∀ a ∈ body, ∀ (u t : State) rest, P u → (u.setPending rest).perform a = .ok t → P t)
    (herr : ∀ a ∈ body, ∀ (u t : State) rest, P u → (u.setPending rest).perform a = .error t →
      Q (t.finish .transportFailed)) : Q (s.drive body) := by
  induction body generalizing s with
  | nil => exact hend s h
  | cons a rest ih =>
    cases hp : (s.setPending rest).perform a with
    | ok t =>
      rw [State.drive_cons_ok hp]
      exact ih t (hok a (by simp) s t rest h hp) (fun b hb => hok b (by simp [hb])) (fun b hb => herr b (by simp [hb]))
    | error t =>
      rw [State.drive_cons_error hp]
      exact herr a (by simp) s t rest h hp

/-- The three shapes of an outcome: next, next with the transport's count lowered, or stuck. -/
theorem State.answered_cases (s t : State) :
    (s.silentAfter = none ∧ s.answered t = .next t) ∨
    (∃ n, s.silentAfter = some n ∧ t.draws - s.draws ≤ n ∧
      s.answered t = .next { t with silentAfter := some (n - (t.draws - s.draws)) }) ∨
    (∃ n, s.silentAfter = some n ∧ n < t.draws - s.draws ∧ s.answered t = .fault .transportSilent) := by
  unfold State.answered
  cases h : s.silentAfter with
  | none => simp
  | some n =>
    by_cases hn : t.draws - s.draws ≤ n
    · exact .inr (.inl ⟨n, rfl, hn, if_pos hn⟩)
    · exact .inr (.inr ⟨n, rfl, by omega, if_neg hn⟩)

/-- No command and no step is ever refused by the model. -/
theorem State.answered_ne_refused (s t : State) (r : Refusal) : s.answered t ≠ .refused r := by
  rcases State.answered_cases s t with ⟨-, h⟩ | ⟨n, -, -, h⟩ | ⟨n, -, -, h⟩ <;> simp [h]

/-- With enough answers to come, the outcome is a next state. -/
theorem State.answered_next {s t : State} (h : s.answersAtLeast (t.draws - s.draws) = true)
    (hs : t.silentAfter = s.silentAfter) :
    s.answered t = .next { t with silentAfter := s.silentAfter.map (· - (t.draws - s.draws)) } := by
  unfold State.answersAtLeast at h
  unfold State.answered
  cases hn : s.silentAfter with
  | none => rw [hn] at hs; cases t; simp_all
  | some n => simp_all

end Sys2Proof.Machine
end

