-- ==== Sys2Proof/Laws/Exec.lean ====
section
/-! SUPPORT. What a command and a step can do, said once: a command is refused for its channel, or its lines are
run to an ending; a step finishes the running command, waits, runs a command, or refuses a word. -/

namespace Sys2Proof.Machine

open Sys2Proof.Config

/-! ## Running a command to its end -/

/-- What running lines never touches, and what it always does. -/
structure Ends (s t : State) : Prop where
  params : t.params = s.params
  commands : t.commands = s.commands
  silentAfter : t.silentAfter = s.silentAfter
  idle : t.busy = false
  draws : s.draws ≤ t.draws
  reported : ∃ r, t.history = r :: s.history

/-- A line that succeeds leaves the parameters, the stream, the history, the rest of the rule and `busy`. -/
theorem State.perform_ok_frame {s t : State} {a : Action} (h : s.perform a = .ok t) :
    t.params = s.params ∧ t.commands = s.commands ∧ t.silentAfter = s.silentAfter ∧ t.busy = s.busy ∧
    t.pending = s.pending ∧ t.history = s.history ∧ t.settleOwed = s.settleOwed ∧ s.draws ≤ t.draws := by
  rcases State.perform_ok h with ⟨_, _, rfl⟩ | ⟨_, _, rfl⟩ | ⟨_, _, rfl⟩ | ⟨_, rfl⟩ | ⟨_, _, _, rfl⟩ |
    ⟨_, _, _, _, rfl⟩ | ⟨_, _, _, rfl⟩ | ⟨_, _, _, rfl⟩ | ⟨_, _, rfl⟩ <;> simp

theorem State.drive_ends (s : State) (body : List Action) : Ends s (s.drive body) := by
  induction body generalizing s with
  | nil => exact ⟨rfl, rfl, rfl, rfl, Nat.le_refl _, _, rfl⟩
  | cons a rest ih =>
    cases h : (s.setPending rest).perform a with
    | ok t =>
      rw [State.drive_cons_ok h]
      obtain ⟨hp, hc, hs, -, -, hh, -, hd⟩ := State.perform_ok_frame h
      have e := ih t
      exact ⟨e.params.trans hp, e.commands.trans hc, e.silentAfter.trans hs, e.idle, hd.trans e.draws,
        by rw [← show t.history = s.history from hh]; exact e.reported⟩
    | error t =>
      rw [State.drive_cons_error h]
      obtain ⟨-, r, rfl, -⟩ := State.perform_error h
      exact ⟨rfl, rfl, rfl, rfl, by simp, _, rfl⟩

/-- A next state of `answered` is the ended state, but for the transport's count. -/
theorem State.answered_next_inv {s t u : State} (h : s.answered t = .next u) (hs : t.silentAfter = s.silentAfter) :
    u = { t with silentAfter := s.silentAfter.map (· - (t.draws - s.draws)) } := by
  rcases State.answered_cases s t with ⟨hn, h'⟩ | ⟨n, hn, -, h'⟩ | ⟨n, -, -, h'⟩
  · rw [h'] at h
    cases h
    cases t
    simp_all
  · rw [h'] at h
    cases h
    simp [hn]
  · rw [h'] at h
    cases h

/-! ## One command -/

/-- The lines of a command's rule. -/
def ruleBody : Instr → List Action
  | .cfg addr freq => [.loadAddr addr, .loadFreq freq]
  | .init => resetBody ++ setfreqBody none
  | .rst => resetBody
  | .setfreq freq => setfreqBody (some freq)
  | .setticks ch on off => [.writeBlock (channelBase ch) (pairBytes on off)]
  | .setpct ch duty => [.writeBlock (channelBase ch) (pairBytes 0#16 (percentToOff duty))]
  | .setlvl ch ticks inv =>
    [.writeBlock (channelBase ch) (pairBytes (levelEncode ticks inv).1 (levelEncode ticks inv).2)]
  | .rdreg reg => [.readReg reg]
  | .wrreg reg val => [.writeReg reg (.literal val)]

/-- The command is refused for its channel (42_duty.md R132). -/
def refusedChannel (p : Params) : Instr → Bool
  | .setticks ch _ _ => channelRefused p ch
  | .setpct ch _ => channelRefused p ch
  | .setlvl ch _ _ => channelRefused p ch
  | .cfg _ _ => false
  | .init => false
  | .rst => false
  | .setfreq _ => false
  | .rdreg _ => false
  | .wrreg _ _ => false

/-- Every meaning is: refused for its channel, or its rule's lines. -/
theorem exec_eq (i : Instr) (s : State) :
    exec i s = if refusedChannel s.params i then .next s.refuse else s.run (ruleBody i) := by
  cases i <;> rfl

/-- What a command that answers a next state has done. -/
theorem exec_next {i : Instr} {s t : State} (h : exec i s = .next t) :
    (refusedChannel s.params i = true ∧ t = s.refuse) ∨
    (refusedChannel s.params i = false ∧ ∃ k, t = { (s.start (ruleBody i)).drive (ruleBody i) with silentAfter := k }) := by
  rw [exec_eq] at h
  cases hr : refusedChannel s.params i with
  | true =>
    rw [hr] at h
    cases h
    exact .inl ⟨rfl, rfl⟩
  | false =>
    rw [hr] at h
    exact .inr ⟨rfl, _, State.answered_next_inv h (State.drive_ends _ _).silentAfter⟩

/-! ## One step -/

theorem step_busy {s : State} (hb : s.busy = true) : step s = s.resume := by
  simp [step, hb]

theorem step_waiting {s : State} (hb : s.busy = false) (hc : s.commands = []) : step s = .next s := by
  simp [step, State.takeCommand, hb, hc]

theorem step_presented {s : State} {w : Word48} {rest : List Word48} (hb : s.busy = false)
    (hc : s.commands = w :: rest) :
    step s = match decode w with
      | .ok i => exec i { s with commands := rest }
      | .error _ => .next (State.refuse { s with commands := rest }) := by
  have ht : s.takeCommand = some (w, { s with commands := rest }) := by
    unfold State.takeCommand
    rw [if_neg (by simp [hb]), hc]
  cases hd : decode w <;> simp [step, hb, ht, hd]

/-- What a step that answers a next state has done. -/
theorem step_next {s t : State} (h : step s = .next t) :
    (s.busy = true ∧ ∃ k, t = { s.drive s.pending with silentAfter := k }) ∨
    (s.busy = false ∧ s.commands = [] ∧ t = s) ∨
    (∃ w rest, s.busy = false ∧ s.commands = w :: rest ∧
      ((∃ i, decode w = .ok i ∧ exec i { s with commands := rest } = .next t) ∨
       ((∀ i, decode w ≠ .ok i) ∧ t = State.refuse { s with commands := rest }))) := by
  cases hb : s.busy with
  | true =>
    rw [step_busy hb] at h
    exact .inl ⟨rfl, _, State.answered_next_inv h (State.drive_ends _ _).silentAfter⟩
  | false =>
    cases hc : s.commands with
    | nil =>
      rw [step_waiting hb hc] at h
      cases h
      exact .inr (.inl ⟨rfl, rfl, rfl⟩)
    | cons w rest =>
      rw [step_presented hb hc] at h
      refine .inr (.inr ⟨w, rest, rfl, rfl, ?_⟩)
      cases hd : decode w with
      | ok i =>
        rw [hd] at h
        exact .inl ⟨i, rfl, h⟩
      | error e =>
        rw [hd] at h
        cases h
        exact .inr ⟨by simp, rfl⟩

end Sys2Proof.Machine
end

