-- ==== Sys2Proof/Laws/PerInstr.lean ====
section
/-! SUPPORT. Laws of every command as syntax, one lemma per constructor. -/

open Sys2Proof

/-- Every command can be written: the operands of a term fit their fields by their types (30_encoding.md R62, R69). -/
def Sys2Proof.Laws.Written.Statement (i : Instr) : Prop := i.wellFormed = true

theorem Sys2Proof.Laws.fitsByte_toNat (b : Byte) : fitsByte b.toNat = true := by
  have := b.isLt
  simp [fitsByte]; omega

theorem Sys2Proof.Laws.fitsHalf_toNat (h : Half) : fitsHalf h.toNat = true := by
  have := h.isLt
  simp [fitsHalf]; omega

theorem Sys2Proof.Laws.fitsBit_toNat (b : Bool) : fitsBit b.toNat = true := by cases b <;> rfl

theorem Sys2Proof.Laws.Written.cfg (addr : Byte) (freq : Half) : Sys2Proof.Laws.Written.Statement (.cfg addr freq) := by
  simp [Sys2Proof.Laws.Written.Statement, Instr.wellFormed, Instr.toAsm, AsmLine.wellFormed, Sys2Proof.Laws.fitsByte_toNat,
    Sys2Proof.Laws.fitsHalf_toNat]

theorem Sys2Proof.Laws.Written.init : Sys2Proof.Laws.Written.Statement .init := rfl

theorem Sys2Proof.Laws.Written.rst : Sys2Proof.Laws.Written.Statement .rst := rfl

theorem Sys2Proof.Laws.Written.setfreq (freq : Half) : Sys2Proof.Laws.Written.Statement (.setfreq freq) := by
  simp [Sys2Proof.Laws.Written.Statement, Instr.wellFormed, Instr.toAsm, AsmLine.wellFormed, Sys2Proof.Laws.fitsHalf_toNat]

theorem Sys2Proof.Laws.Written.setticks (ch : Byte) (on off : Half) :
    Sys2Proof.Laws.Written.Statement (.setticks ch on off) := by
  simp [Sys2Proof.Laws.Written.Statement, Instr.wellFormed, Instr.toAsm, AsmLine.wellFormed, Sys2Proof.Laws.fitsByte_toNat,
    Sys2Proof.Laws.fitsHalf_toNat]

theorem Sys2Proof.Laws.Written.setpct (ch duty : Byte) : Sys2Proof.Laws.Written.Statement (.setpct ch duty) := by
  simp [Sys2Proof.Laws.Written.Statement, Instr.wellFormed, Instr.toAsm, AsmLine.wellFormed, Sys2Proof.Laws.fitsByte_toNat]

theorem Sys2Proof.Laws.Written.setlvl (ch : Byte) (ticks : Half) (inv : Bool) :
    Sys2Proof.Laws.Written.Statement (.setlvl ch ticks inv) := by
  simp [Sys2Proof.Laws.Written.Statement, Instr.wellFormed, Instr.toAsm, AsmLine.wellFormed, Sys2Proof.Laws.fitsByte_toNat,
    Sys2Proof.Laws.fitsHalf_toNat, Sys2Proof.Laws.fitsBit_toNat]

theorem Sys2Proof.Laws.Written.rdreg (reg : Byte) : Sys2Proof.Laws.Written.Statement (.rdreg reg) := by
  simp [Sys2Proof.Laws.Written.Statement, Instr.wellFormed, Instr.toAsm, AsmLine.wellFormed, Sys2Proof.Laws.fitsByte_toNat]

theorem Sys2Proof.Laws.Written.wrreg (reg val : Byte) : Sys2Proof.Laws.Written.Statement (.wrreg reg val) := by
  simp [Sys2Proof.Laws.Written.Statement, Instr.wellFormed, Instr.toAsm, AsmLine.wellFormed, Sys2Proof.Laws.fitsByte_toNat]
end

