-- ==== Sys2Proof/Tests/Slice0.lean ====
section
/-! SUPPORT. Tests, every expected value from the spec's own words and numbers (30_encoding.md R71,
95_test_vectors.md), and for each obligation with hypotheses a state and operands that meet them. -/

namespace Sys2Proof.Tests

open Sys2Proof.Machine Sys2Proof.Config

/-! ## Helpers -/

/-- An answer to a write: success. -/
def ack : Answer := .success 0x00#8

/-- Power-on with these answers to come. -/
def world (answers : List Answer) : State := { State.reset with answers := answers }

/-- The same with other parameters. -/
def worldWith (p : Params) (answers : List Answer) : State := { world answers with params := p }

def literalResume : Params := { defaultParams with resume := .literal }
def saturating : Params := { defaultParams with narrow := .saturate }
def wrapping : Params := { defaultParams with channelPolicy := .wrap8 }

/-- The step's outcome as the vectors show it: trace, status, result byte, ADDR, FREQ. -/
def seen : Host.Outcome State Fault Refusal → Option (List Record × Status × Option Byte × Byte × Half)
  | .next t => match t.history with
    | r :: _ => some (r.trace, r.status, r.result, t.addr, t.freq)
    | [] => none
  | _ => none

def stopped : Host.Outcome State Fault Refusal → Option Fault
  | .fault f => some f
  | _ => none

/-! ## Well-formedness: each check refuses an ill-formed line (R69) -/

theorem test_wellFormed_byte : (AsmLine.wellFormed ⟨.rdreg, [255]⟩, AsmLine.wellFormed ⟨.rdreg, [256]⟩) = (true, false) := by decide
theorem test_wellFormed_half :
    (AsmLine.wellFormed ⟨.setfreq, [65535]⟩, AsmLine.wellFormed ⟨.setfreq, [65536]⟩) = (true, false) := by decide
theorem test_wellFormed_bit :
    (AsmLine.wellFormed ⟨.setlvl, [0, 100, 1]⟩, AsmLine.wellFormed ⟨.setlvl, [0, 100, 2]⟩) = (true, false) := by decide
theorem test_wellFormed_count :
    (AsmLine.wellFormed ⟨.setticks, [3, 0, 2055]⟩, AsmLine.wellFormed ⟨.setticks, [3, 0]⟩) = (true, false) := by decide

/-! ## Decoding: words of 95_test_vectors.md sections 2.2 to 2.9, written from R60, R61 -/

theorem test_decode_cfg : decode 0x1041000007D0#48 = .ok (.cfg 0x41#8 2000#16) := rfl
theorem test_decode_init : decode 0x200000000000#48 = .ok .init := rfl
theorem test_decode_rst : decode 0x300000000000#48 = .ok .rst := rfl
theorem test_decode_setfreq : decode 0x4000000003E8#48 = .ok (.setfreq 1000#16) := rfl
theorem test_decode_setticks : decode 0x50071234ABCD#48 = .ok (.setticks 7#8 0x1234#16 0xABCD#16) := rfl
theorem test_decode_setpct : decode 0x6005000000FE#48 = .ok (.setpct 5#8 254#8) := rfl
theorem test_decode_setlvl : decode 0x700200010800#48 = .ok (.setlvl 2#8 2048#16 true) := rfl
theorem test_decode_setlvl_plain : decode 0x70000000FFFF#48 = .ok (.setlvl 0#8 65535#16 false) := rfl
theorem test_decode_rdreg : decode 0x80000000FF00#48 = .ok (.rdreg 0xFF#8) := rfl
theorem test_decode_wrreg : decode 0x90000000FE79#48 = .ok (.wrreg 0xFE#8 0x79#8) := rfl

theorem test_decode_unassigned :
    decode 0x000000000000#48 = .error .unassignedOp ∧ decode 0xA00000000000#48 = .error .unassignedOp ∧
    decode 0xF123456789AB#48 = .error .unassignedOp := ⟨rfl, rfl, rfl⟩

theorem test_decode_reserved :
    decode 0x400000010032#48 = .error .reservedBits ∧ decode 0x310000000000#48 = .error .reservedBits ∧
    decode 0x200000000001#48 = .error .reservedBits ∧ decode 0x800000000001#48 = .error .reservedBits ∧
    decode 0x600300000180#48 = .error .reservedBits ∧ decode 0x700000020064#48 = .error .reservedBits ∧
    decode 0x150000000000#48 = .error .reservedBits := ⟨rfl, rfl, rfl, rfl, rfl, rfl, rfl⟩

/-- The channel is not the decoder's to refuse (R63). -/
theorem test_decode_any_channel : decode 0x50FF00010001#48 = .ok (.setticks 255#8 1#16 1#16) := rfl

/-! ## Assembling text (R69, R70) -/

theorem test_assemble_hex :
    assemble ['W', 'R', 'R', 'E', 'G', ' ', '0', 'x', 'F', 'E', ',', ' ', '0', 'x', '7', '9'] =
      some (.wrreg 0xFE#8 0x79#8) := by decide
theorem test_assemble_decimal :
    assemble ['S', 'E', 'T', 'L', 'V', 'L', ' ', '0', ',', '1', '0', '0', ',', '1'] =
      some (.setlvl 0#8 100#16 true) := by decide
theorem test_assemble_default : assemble ['C', 'F', 'G'] = some (.cfg 0x40#8 50#16) := by decide
theorem test_assemble_too_wide :
    assemble ['S', 'E', 'T', 'F', 'R', 'E', 'Q', ' ', '6', '5', '5', '3', '6'] = none := by decide

theorem test_assemble_pseudo_too_wide :
    assemble ['F', 'U', 'L', 'L', 'O', 'N', ' ', '2', '5', '6'] = none ∧
    assemble ['S', 'E', 'T', 'L', 'V', 'L', ' ', '0', ',', '6', '5', '5', '3', '6'] = none := by decide

/-- R180, R181. -/
theorem test_status_codes : [Status.ok, .refused, .transportFailed].map Status.code = [0, 1, 2] := by decide

/-! ## Datapaths (95_test_vectors.md sections 2.1, 2.3) -/

theorem test_prescaler_rows :
    [24, 25, 26, 27, 30, 50, 60, 100, 200, 500, 1000, 1500, 1526].map prescaleWide =
      [282, 270, 260, 250, 225, 135, 112, 67, 33, 13, 6, 4, 3] := by decide
theorem test_prescaler_quotients :
    [24, 50, 1000, 1526].map hundredths = [25431, 12207, 610, 399] := by decide
/-- Runs of section 2.1a, both ends of each. -/
theorem test_prescaler_runs :
    [89, 90, 91, 92, 246, 247, 255, 256, 1043, 1044, 1233, 1234, 1507, 1508].map prescaleWide =
      [75, 74, 74, 73, 27, 26, 26, 25, 6, 5, 5, 4, 4, 3] := by decide
theorem test_percent_rows :
    [0#8, 15#8, 16#8, 32#8, 127#8, 240#8, 255#8].map (fun d => (percentToOff d).toNat) =
      [0, 239, 256, 513, 2038, 3854, 4095] := by decide
theorem test_channel_base :
    [0#8, 15#8, 16#8, 61#8, 62#8, 255#8].map channelBase = [0x06#8, 0x42#8, 0x46#8, 0xFA#8, 0xFE#8, 0x02#8] := by decide
theorem test_resume_literal : resumeMode literalResume 0x11#8 = 0xA0#8 ∧ resumeMode defaultParams 0x11#8 = 0xB1#8 := by decide

/-! ## One step of each command (95_test_vectors.md sections 2.2 to 2.8) -/

theorem test_cfg : seen (step ((world []).withFetchWord 48 0x1041000007D0)) =
    some ([], .ok, none, 0x41#8, 2000#16) := by decide
theorem test_cfg_out_of_range : seen (step ((world []).withFetchWord 48 0x10FF00000000)) =
    some ([], .ok, none, 0xFF#8, 0#16) := by decide

theorem test_init : seen (step ((((world [ack, .success 0x20#8, ack, ack, ack, ack]).setAddr 0xFF#8).setFreq 0#16).withFetchWord
    48 0x200000000000)) =
    some ([wr 0xFF#8 0x00#8 0x80#8, dly 0xFF#8 10#32, rd 0xFF#8 0x00#8 0x20#8, wr 0xFF#8 0x00#8 0x30#8,
      wr 0xFF#8 0xFE#8 0x1A#8, wr 0xFF#8 0x00#8 0x20#8, dly 0xFF#8 5#32, wr 0xFF#8 0x00#8 0xA0#8],
      .ok, none, 0xFF#8, 24#16) := by decide
theorem test_init_prescale_write_fails : seen (step ((world [ack, ack, ack, .failure]).withFetchWord 48 0x200000000000)) =
    some ([wr 0x40#8 0x00#8 0x80#8, dly 0x40#8 10#32, rd 0x40#8 0x00#8 0x00#8, wr 0x40#8 0x00#8 0x10#8,
      (wr 0x40#8 0xFE#8 0x87#8).fail], .transportFailed, none, 0x40#8, 50#16) := by decide

theorem test_rst : seen (step ((world [ack]).withFetchWord 48 0x300000000000)) =
    some ([wr 0x40#8 0x00#8 0x80#8, dly 0x40#8 10#32], .ok, none, 0x40#8, 50#16) := by decide
theorem test_rst_write_fails : seen (step ((world [.failure]).withFetchWord 48 0x300000000000)) =
    some ([(wr 0x40#8 0x00#8 0x80#8).fail], .transportFailed, none, 0x40#8, 50#16) := by decide

theorem test_setfreq : seen (step ((world [.success 0x11#8, ack, ack, ack, ack]).withFetchWord 48 0x400000000032)) =
    some ([rd 0x40#8 0x00#8 0x11#8, wr 0x40#8 0x00#8 0x11#8, wr 0x40#8 0xFE#8 0x87#8, wr 0x40#8 0x00#8 0x11#8,
      dly 0x40#8 5#32, wr 0x40#8 0x00#8 0xB1#8], .ok, none, 0x40#8, 50#16) := by decide
theorem test_setfreq_last_write_fails :
    seen (step ((world [ack, ack, ack, ack, .failure]).withFetchWord 48 0x4000000007D0)) =
    some ([rd 0x40#8 0x00#8 0x00#8, wr 0x40#8 0x00#8 0x10#8, wr 0x40#8 0xFE#8 0x03#8, wr 0x40#8 0x00#8 0x00#8,
      dly 0x40#8 5#32, (wr 0x40#8 0x00#8 0xA0#8).fail], .transportFailed, none, 0x40#8, 1526#16) := by decide

theorem test_setticks : seen (step ((world [ack]).withFetchWord 48 0x50071234ABCD)) =
    some ([wb 0x40#8 0x22#8 0x34#8 0x12#8 0xCD#8 0xAB#8], .ok, none, 0x40#8, 50#16) := by decide
theorem test_setticks_refused : seen (step ((world [ack]).withFetchWord 48 0x501000000064)) =
    some ([], .refused, none, 0x40#8, 50#16) := by decide

theorem test_setpct : seen (step ((world [ack]).withFetchWord 48 0x600300000080)) =
    some ([wb 0x40#8 0x12#8 0x00#8 0x00#8 0x07#8 0x08#8], .ok, none, 0x40#8, 50#16) := by decide
theorem test_setpct_zero : seen (step ((world [ack]).withFetchWord 48 0x600000000000)) =
    some ([wb 0x40#8 0x06#8 0x00#8 0x00#8 0x00#8 0x00#8], .ok, none, 0x40#8, 50#16) := by decide

theorem test_setlvl : seen (step ((world [ack]).withFetchWord 48 0x700000010064)) =
    some ([wb 0x40#8 0x06#8 0x00#8 0x00#8 0x9B#8 0x0F#8], .ok, none, 0x40#8, 50#16) := by decide
theorem test_setlvl_inverted_top : seen (step ((world [ack]).withFetchWord 48 0x70010001FFFF)) =
    some ([wb 0x40#8 0x0A#8 0x00#8 0x00#8 0x00#8 0x10#8], .ok, none, 0x40#8, 50#16) := by decide

theorem test_rdreg : seen (step ((world [.success 0x03#8]).withFetchWord 48 0x80000000FF00)) =
    some ([rd 0x40#8 0xFF#8 0x03#8], .ok, some 0x03#8, 0x40#8, 50#16) := by decide
theorem test_rdreg_read_fails : seen (step ((world [.failure]).withFetchWord 48 0x800000000000)) =
    some ([⟨0x40#8, .read 0x00#8, .failed⟩], .transportFailed, none, 0x40#8, 50#16) := by decide

theorem test_wrreg : seen (step ((world [ack]).withFetchWord 48 0x90000000FE79)) =
    some ([wr 0x40#8 0xFE#8 0x79#8], .ok, none, 0x40#8, 50#16) := by decide

theorem test_reserved_word : seen (step ((world [ack]).withFetchWord 48 0xF123456789AB)) =
    some ([], .refused, none, 0x40#8, 50#16) := by decide

/-! ## The parameters (00_scope.md R8), at one step each -/

theorem test_saturate : seen (step ((worldWith saturating [ack, ack, ack, ack, ack]).withFetchWord 48 0x400000000019)) =
    some ([rd 0x40#8 0x00#8 0x00#8, wr 0x40#8 0x00#8 0x10#8, wr 0x40#8 0xFE#8 0xFF#8, wr 0x40#8 0x00#8 0x00#8,
      dly 0x40#8 5#32, wr 0x40#8 0x00#8 0xA0#8], .ok, none, 0x40#8, 25#16) := by decide
theorem test_wrap8 : seen (step ((worldWith wrapping [ack]).withFetchWord 48 0x503D00000064)) =
    some ([wb 0x40#8 0xFA#8 0x00#8 0x00#8 0x64#8 0x00#8], .ok, none, 0x40#8, 50#16) := by decide

/-! ## Witnesses: states and operands that meet the hypotheses of each obligation that has some -/

/-- Power-on with a word on the command port. -/
def presented (w : Word48) : State := { State.reset with commands := [w] }

/-- SETFREQ 24 in flight: MODE1 has been read, four lines of the rule are still to do. -/
def midSetfreq : State :=
  { State.reset with
    freq := 24#16, busy := true, oldMode := 0x11#8, presc := 0x1A#8, index := 1,
    pending := [.writeReg 0x00#8 .sleepMode, .writeReg 0xFE#8 .presc, .delay 5#32, .writeReg 0x00#8 .resumeMode],
    trace := [rd 0x40#8 0x00#8 0x11#8], answers := [ack, ack, ack] }

/-- A state in which the transport answers `n` more requests. -/
def quietAfter (n : Nat) (answers : List Answer) : State := { world answers with silentAfter := some n }

/-- A state in which the host owes the wait of R210. -/
def unsettled (answers : List Answer) : State := { world answers with settleOwed := true }

theorem witness_EncodeOfDecode : decode 0x5009FFFFFFFF#48 = .ok (.setticks 9#8 0xFFFF#16 0xFFFF#16) := rfl

/-- Each command's word with every operand bit set, and with none. -/
theorem witness_WordSelectsExactlyItsCommand :
    0x10FF0000FFFF#48 &&& 0xFF00FFFF0000#48 = 0x100000000000#48 ∧
    0x200000000000#48 &&& 0xFFFFFFFFFFFF#48 = 0x200000000000#48 ∧
    0x300000000000#48 &&& 0xFFFFFFFFFFFF#48 = 0x300000000000#48 ∧
    0x40000000FFFF#48 &&& 0xFFFFFFFF0000#48 = 0x400000000000#48 ∧
    0x50FFFFFFFFFF#48 &&& 0xFF0000000000#48 = 0x500000000000#48 ∧
    0x60FF000000FF#48 &&& 0xFF00FFFFFF00#48 = 0x600000000000#48 ∧
    0x70FF0001FFFF#48 &&& 0xFF00FFFE0000#48 = 0x700000000000#48 ∧
    0x80000000FF00#48 &&& 0xFFFFFFFF00FF#48 = 0x800000000000#48 ∧
    0x90000000FFFF#48 &&& 0xFFFFFFFF0000#48 = 0x900000000000#48 := by decide

theorem witness_WorkedEncodings :
    (presented 0x400000010032#48).busy = false ∧ (presented 0x400000010032#48).commands = 0x400000010032#48 :: [] := ⟨rfl, rfl⟩

/-- Op 0, the first above 9 and the last. -/
theorem witness_ReservedOpcodeIsRefused :
    (presented 0x0#48).busy = false ∧ (presented 0x0#48).commands = 0x0#48 :: [] ∧
    ((0x0#48 : Word48).extractLsb' 44 4).toNat = 0 ∧
    10 ≤ ((0xA00000000000#48 : Word48).extractLsb' 44 4).toNat ∧
    10 ≤ ((0xFFFFFFFFFFFF#48 : Word48).extractLsb' 44 4).toNat := by decide

/-- For each op one reserved bit set, at an edge of the reserved field. -/
theorem witness_ReservedBitIsRefused :
    (presented 0x410000000000#48).busy = false ∧
    [(0x100000010000#48, 1, 0x0F00FFFF0000#48), (0x200000000001#48, 2, 0x0FFFFFFFFFFF#48),
      (0x380000000000#48, 3, 0x0FFFFFFFFFFF#48), (0x400000010000#48, 4, 0x0FFFFFFF0000#48),
      (0x510000000000#48, 5, 0x0F0000000000#48), (0x600000000100#48, 6, 0x0F00FFFFFF00#48),
      (0x700000020000#48, 7, 0x0F00FFFE0000#48), (0x800000010001#48, 8, 0x0FFFFFFF00FF#48),
      (0x988000000000#48, 9, 0x0FFFFFFF0000#48)].all
      (fun x => decide (((x.1 : Word48).extractLsb' 44 4).toNat = x.2.1 ∧ x.1 &&& x.2.2 ≠ 0#48)) = true := by decide

/-- A full line, and one of each kind that leaves operands out, at the top of each field. -/
theorem witness_AssemblerNeverTruncates :
    (assembleLine ⟨.setlvl, [255, 65535, 1]⟩ = some (.setlvl 255#8 65535#16 true) ∧
      [255, 65535, 1].length = (Instr.setlvl 255#8 65535#16 true).toAsm.operands.length) ∧
    assembleLine ⟨.setlvl, [255, 65535]⟩ = some (.setlvl 255#8 65535#16 false) ∧
    assembleLine ⟨.cfg, [255]⟩ = some (.cfg 255#8 50#16) ∧
    assembleLine ⟨.fullon, [255]⟩ = some (.setticks 255#8 4096#16 0#16) ∧
    assembleLine ⟨.fulloff, [255]⟩ = some (.setticks 255#8 0#16 4096#16) := by decide

theorem witness_StepRunsDecodedCommand :
    (presented 0x300000000000#48).busy = false ∧
    (presented 0x300000000000#48).commands = 0x300000000000#48 :: [] ∧ decode 0x300000000000#48 = .ok .rst :=
  ⟨rfl, rfl, rfl⟩

theorem witness_FetchedTableWordRuns : decode 0x90000000FE79#48 = .ok (.wrreg 0xFE#8 0x79#8) := rfl

theorem witness_NothingTakenWhileBusy : midSetfreq.busy = true ∧ ∃ t, step midSetfreq = .next t := ⟨rfl, _, rfl⟩

theorem witness_IdleWaitsForCommand : State.reset.busy = false ∧ State.reset.commands = [] := ⟨rfl, rfl⟩

theorem witness_RstFollowsItsRule :
    ((quietAfter 1 [ack]).answersAtLeast 1 = true ∧ (quietAfter 1 [ack]).accepts 0 = true) ∧
    ((world [.failure]).answersAtLeast 1 = true ∧ (world [.failure]).reply 0 = .failure) := by decide

/-- All six requests succeed; the first fails; the second and the last of the later ones fail. -/
theorem witness_InitFollowsItsRule :
    ((quietAfter 6 [ack, .success 0x20#8, ack, ack, ack, ack]).answersAtLeast 6 = true ∧
      (∀ j, j < 6 → (quietAfter 6 [ack, .success 0x20#8, ack, ack, ack, ack]).accepts j = true) ∧
      (quietAfter 6 [ack, .success 0x20#8, ack, ack, ack, ack]).reply 1 = .success 0x20#8) ∧
    ((world [.failure]).answersAtLeast 1 = true ∧ (world [.failure]).reply 0 = .failure) ∧
    ((world [ack, .failure]).answersAtLeast 2 = true ∧ (∀ j, j < 1 → (world [ack, .failure]).accepts j = true) ∧
      (world [ack, .failure]).reply 1 = .failure) ∧
    ((world [ack, .success 0x20#8, ack, ack, ack, .failure]).answersAtLeast 6 = true ∧
      (∀ j, j < 5 → (world [ack, .success 0x20#8, ack, ack, ack, .failure]).accepts j = true) ∧
      (world [ack, .success 0x20#8, ack, ack, ack, .failure]).reply 5 = .failure ∧
      (world [ack, .success 0x20#8, ack, ack, ack, .failure]).reply 1 = .success 0x20#8) := by decide

/-- Below, at and above both ends of the range. -/
theorem witness_FrequencyClamp :
    (23#16 : Half).toNat < 24 ∧ 1526 < (1527#16 : Half).toNat ∧ 24 ≤ (24#16 : Half).toNat ∧
    (1526#16 : Half).toNat ≤ 1526 := by decide

theorem witness_PrescalerDatapath : (24 ≤ 24 ∧ 24 ≤ 1526) ∧ (24 ≤ 1526 ∧ 1526 ≤ 1526) := by decide

theorem witness_PrescalerRoundsExactly : (24 ≤ 24 ∧ 24 ≤ 1526) ∧ (24 ≤ 1526 ∧ 1526 ≤ 1526) := by decide

theorem witness_PrescaleByteNarrowing :
    (defaultParams.prescaleFn = .prescaleWide ∧ defaultParams.narrow = .wrap) ∧
    (saturating.prescaleFn = .prescaleWide ∧ saturating.narrow = .saturate) ∧ 27 ≤ 27 ∧ 27 ≤ 1526 := by decide

theorem witness_PrescalerProperties :
    (24 ≤ 24 ∧ 24 ≤ 1526 ∧ 1526 ≤ 1526) ∧
    (24 ≤ 1508 ∧ 1508 ≤ 1517 ∧ 1517 ≤ 1526 ∧ 1526 ≤ 1526 ∧ prescaleWide 1508 = prescaleWide 1526) := by decide

theorem witness_ModeValues :
    defaultParams.resume = .orOld ∧ literalResume.resume = .literal ∧ 7 < 8 := by decide

/-- All five requests succeed; the first fails; the last fails. -/
theorem witness_SetfreqFollowsItsRule :
    ((quietAfter 5 [.success 0x11#8, ack, ack, ack, ack]).answersAtLeast 5 = true ∧
      (∀ j, j < 5 → (quietAfter 5 [.success 0x11#8, ack, ack, ack, ack]).accepts j = true) ∧
      (quietAfter 5 [.success 0x11#8, ack, ack, ack, ack]).reply 0 = .success 0x11#8) ∧
    ((world [.failure]).answersAtLeast 1 = true ∧ (∀ j, j < 0 → (world [.failure]).accepts j = true) ∧
      (world [.failure]).reply 0 = .failure) ∧
    ((world [.success 0x11#8, ack, ack, ack, .failure]).answersAtLeast 5 = true ∧
      (∀ j, j < 4 → (world [.success 0x11#8, ack, ack, ack, .failure]).accepts j = true) ∧
      (world [.success 0x11#8, ack, ack, ack, .failure]).reply 4 = .failure ∧
      (world [.success 0x11#8, ack, ack, ack, .failure]).reply 0 = .success 0x11#8) := by decide

theorem witness_FreqStaysInRange :
    (∃ t, exec (.setfreq 0#16) (world [.failure]) = .next t) ∧
    (world [ack, .failure]).accepts 0 = true ∧ (∃ t, exec .init (world [ack, .failure]) = .next t) ∧
    (∃ t, exec .rst (world [ack]) = .next t) ∧ 24 ≤ (world [ack]).freq.toNat ∧ (world [ack]).freq.toNat ≤ 1526 :=
  ⟨⟨_, rfl⟩, rfl, ⟨_, rfl⟩, ⟨_, rfl⟩, by decide, by decide⟩

/-- A PRESCALE_FN that is 300 everywhere. -/
theorem witness_AnyPrescaleFunction :
    ∃ p : Params, p.prescaleFn = .tabulated (Vector.replicate 1503 300) ∧ p.narrow = .wrap :=
  ⟨{ defaultParams with prescaleFn := .tabulated (Vector.replicate 1503 300) }, rfl, rfl⟩

/-- The last base whose block fits, that of channel 61. -/
theorem witness_PairBytesLittleEndian : (channelBase 61#8).toNat = 0xFA ∧ (channelBase 61#8).toNat ≤ 0xFC := by decide

theorem witness_ChannelRegisters : (15#8 : Byte).toNat ≤ 15 ∧ 0x06 ≤ 0x06 ∧ 0x45 ≤ 0x45 := by decide

theorem witness_PercentMapping : (1#8 : Byte) ≠ 0#8 := by decide

theorem witness_LevelEncoding :
    4095 ≤ (4095#16 : Half).toNat ∧ (0#16 : Half).toNat = 0 ∧ 0 < (1#16 : Half).toNat ∧
    (4094#16 : Half).toNat < 4095 := by decide

/-- Refused at channel 16; accepted at channel 15, and at 255 under WRAP8; a success and a failure. The three
channel commands share these hypotheses. -/
theorem witness_SetticksFollowsItsRule :
    ((world []).params.channelPolicy = .refuse ∧ 15 < (16#8 : Byte).toNat) ∧
    ((15#8 : Byte).toNat ≤ 15 ∧ (quietAfter 1 [ack]).answersAtLeast 1 = true ∧ (quietAfter 1 [ack]).accepts 0 = true) ∧
    ((worldWith wrapping [.failure]).params.channelPolicy = .wrap8 ∧
      (worldWith wrapping [.failure]).answersAtLeast 1 = true ∧
      (worldWith wrapping [.failure]).reply 0 = .failure) := by decide

theorem witness_SetpctFollowsItsRule :
    ((world []).params.channelPolicy = .refuse ∧ 15 < (16#8 : Byte).toNat) ∧
    ((15#8 : Byte).toNat ≤ 15 ∧ (world [ack]).answersAtLeast 1 = true ∧ (world [ack]).accepts 0 = true) ∧
    (worldWith wrapping [.failure]).reply 0 = .failure := by decide

theorem witness_SetlvlFollowsItsRule :
    ((world []).params.channelPolicy = .refuse ∧ 15 < (16#8 : Byte).toNat) ∧
    ((15#8 : Byte).toNat ≤ 15 ∧ (world [ack]).answersAtLeast 1 = true ∧ (world [ack]).accepts 0 = true) ∧
    (worldWith wrapping [.failure]).reply 0 = .failure := by decide

theorem witness_RdregFollowsItsRule :
    ((quietAfter 1 [.success 0xFF#8]).answersAtLeast 1 = true ∧
      (quietAfter 1 [.success 0xFF#8]).reply 0 = .success 0xFF#8) ∧
    ((world [.failure]).answersAtLeast 1 = true ∧ (world [.failure]).reply 0 = .failure) := by decide

theorem witness_WrregFollowsItsRule :
    ((quietAfter 1 [ack]).answersAtLeast 1 = true ∧ (quietAfter 1 [ack]).accepts 0 = true) ∧
    ((world [.failure]).answersAtLeast 1 = true ∧ (world [.failure]).reply 0 = .failure) := by decide

/-- A running state meets the invariant and steps. -/
theorem witness_StepKeepsInvariant : midSetfreq.Inv ∧ ∃ t, step midSetfreq = .next t :=
  ⟨⟨rfl, by decide, by decide, by decide, by decide⟩, _, rfl⟩

theorem witness_HistoryIsNeverErased :
    (∃ t, step (presented 0xA00000000000#48) = .next t) ∧ (presented 0xA00000000000#48).commands ≠ [] ∧
    (∃ t, step midSetfreq = .next t) ∧ midSetfreq.busy = true :=
  ⟨⟨_, rfl⟩, by decide, ⟨_, rfl⟩, rfl⟩

theorem witness_WritersOfAddrAndFreq :
    ∃ t, exec (.rdreg 0x00#8) (world [ack]) = .next t ∧ (∀ a f, Instr.rdreg 0x00#8 ≠ .cfg a f) ∧
      (∀ f, Instr.rdreg 0x00#8 ≠ .setfreq f) ∧ Instr.rdreg 0x00#8 ≠ .init :=
  ⟨_, rfl, by simp, by simp, by simp⟩

theorem witness_FrameOfEveryCommand :
    ∃ t, exec .rst (world [.failure]) = .next t ∧ (∀ f, Instr.rst ≠ .setfreq f) ∧ Instr.rst ≠ .init :=
  ⟨_, rfl, by simp, by simp⟩

theorem witness_EveryRequestCarriesAddr : ∃ t, exec .rst (world [ack]) = .next t := ⟨_, rfl⟩

theorem witness_RefusedTouchesNothing :
    (presented 0x501000000064#48).busy = false ∧ ∃ t r, step (presented 0x501000000064#48) = .next t ∧
      t.history = r :: (presented 0x501000000064#48).history ∧ r.status = .refused :=
  ⟨rfl, _, _, rfl, rfl, rfl⟩

theorem witness_LatchesAreDeadBetweenCommands : (presented 0x200000000000#48).busy = false := rfl

theorem witness_CommandIsItsTransactionsInOrder : midSetfreq.busy = true := rfl

theorem witness_OneRequestAtATime : midSetfreq.busy = true := rfl

theorem witness_PrescaleWrittenOnlyAsleep :
    (∃ t, exec (.setfreq 24#16) (world [ack, ack, ack, ack, ack]) = .next t) ∧
    (∃ t, exec .init (world [ack, ack, ack, .failure]) = .next t) := ⟨⟨_, rfl⟩, _, rfl⟩

theorem witness_ResetWriteIsFollowedByDelay :
    (∃ t, exec .rst (world [ack]) = .next t) ∧ (∃ t, exec .init (world [.failure]) = .next t) := ⟨⟨_, rfl⟩, _, rfl⟩

/-- The wait comes to be owed; it stays owed over a CFG; it is made before an RDREG; and with none owed. -/
theorem witness_HostWaitsAfterBareResetWrite :
    ((0x80#8 : Byte).getLsbD 7 = true ∧ ∃ t, exec (.wrreg 0x00#8 0x80#8) (world [ack]) = .next t) ∧
    (∃ t r, exec (.cfg 0x41#8 50#16) (unsettled []) = .next t ∧ t.history = r :: [] ∧ r.trace = []) ∧
    (∃ t r, exec (.rdreg 0x00#8) (unsettled [ack]) = .next t ∧ t.history = r :: [] ∧ r.trace ≠ []) ∧
    (unsettled [ack]).settleOwed = true ∧ (world [ack]).settleOwed = false :=
  ⟨⟨rfl, _, rfl⟩, ⟨_, _, rfl, rfl, rfl⟩, ⟨_, _, rfl, rfl, List.cons_ne_nil _ _⟩, rfl, rfl⟩

theorem witness_CommandsStopOnlyForSilence :
    exec .rst (quietAfter 0 [ack]) = .fault .transportSilent ∧ (world []).silentAfter = none := ⟨rfl, rfl⟩

/-- Silent at once, and before the last request of INIT. -/
theorem witness_SilentTransportLeavesCommandStuck :
    ((quietAfter 0 []).silentAfter = some 0 ∧ 0 < requestCount (quietAfter 0 []).params (.rdreg 0x00#8)) ∧
    ((quietAfter 5 [ack, ack, ack, ack, ack]).silentAfter = some 5 ∧
      (∀ j, j < 5 → (quietAfter 5 [ack, ack, ack, ack, ack]).accepts j = true) ∧
      5 < requestCount (quietAfter 5 [ack, ack, ack, ack, ack]).params .init) := by decide

theorem witness_MinimumDelays :
    ∃ t r, exec .init (world [ack, ack, ack, ack, ack, ack]) = .next t ∧ t.history = r :: [] ∧ r.status = .ok :=
  ⟨_, _, rfl, rfl, rfl⟩

/-- A report of a successful SETFREQ 50, and a state that has it. -/
def bootedState : State :=
  { presented 0x300000000000#48 with
    answers := [ack]
    history := [⟨reconfigureTrace 0x40#8 0x87#8 0x00#8 0xA0#8, .ok, none, 0⟩] }

theorem witness_BootedAfterSuccessfulReconfiguration :
    (∃ t r, exec .rst (world [ack]) = .next t ∧ t.history = r :: (world [ack]).history) ∧
    bootedState.booted = true ∧ ∃ t, step bootedState = .next t :=
  ⟨⟨_, _, rfl, rfl⟩, by decide, _, rfl⟩

end Sys2Proof.Tests
end

/-! The parameter PRESCALE_FN as a full table (00_scope.md R8, 41_frequency.md R105), and what no command touches: the
parameters, the command stream, and, outside SETFREQ and INIT, the latches (10_state.md R24, R26). -/

namespace Sys2Proof.Machine

open Sys2Proof.Config

/-! ## The clamped frequency and the prescaler byte -/

theorem clampFreq_toNat (f : Half) : (clampFreq f).toNat = min (max f.toNat minFreq) maxFreq := by
  have hlt : min (max f.toNat minFreq) maxFreq < 2 ^ 16 := lt_of_le_of_lt (min_le_right _ _) (by decide)
  rw [clampFreq, BitVec.toNat_ofNat, Nat.mod_eq_of_lt hlt]

theorem minFreq_le_clampFreq (f : Half) : minFreq ≤ (clampFreq f).toNat := by
  rw [clampFreq_toNat]
  exact le_min (le_max_right _ _) (by decide)

theorem clampFreq_le_maxFreq (f : Half) : (clampFreq f).toNat ≤ maxFreq := by
  rw [clampFreq_toNat]
  exact min_le_right _ _

theorem prescaleByte_toNat_of_wrap {p : Params} (h : p.narrow = .wrap) (fc : Nat) :
    (prescaleByte p fc).toNat = prescaleValue p.prescaleFn fc % 256 := by
  simp [prescaleByte, h]

theorem prescaleByte_toNat_of_saturate {p : Params} (h : p.narrow = .saturate) (fc : Nat) :
    (prescaleByte p fc).toNat = min (prescaleValue p.prescaleFn fc) 255 := by
  have hlt : min (prescaleValue p.prescaleFn fc) 255 < 2 ^ 8 := by omega
  simp only [prescaleByte, h, BitVec.toNat_ofNat, Nat.mod_eq_of_lt hlt]

/-! ## Any function as a table -/

/-- The value of PRESCALE_FN that is `g` at every clamped frequency: entry `k` of the table is `g (k + 24)`. -/
def tableOf (g : Nat → Nat) : PrescaleFn := .tabulated (Vector.ofFn fun k => g (k + minFreq))

theorem prescaleValue_tableOf (g : Nat → Nat) {fc : Nat} (hmin : minFreq ≤ fc) (hmax : fc ≤ maxFreq) :
    prescaleValue (tableOf g) fc = g fc := by
  have hk : fc - minFreq < 1503 := by
    have : maxFreq = minFreq + 1502 := rfl
    omega
  simp [prescaleValue, tableOf, hk, Nat.sub_add_cancel hmin]

theorem prescaleValue_tableOf_clampFreq (g : Nat → Nat) (f : Half) :
    prescaleValue (tableOf g) (clampFreq f).toNat = g (clampFreq f).toNat :=
  prescaleValue_tableOf g (minFreq_le_clampFreq f) (clampFreq_le_maxFreq f)

/-- Settles O24: the parameter is the table of `g`, and R105 makes the byte from its entry. -/
theorem anyPrescaleFunction : Obligations.AnyPrescaleFunction := by
  intro g
  refine ⟨tableOf g, fun f => ⟨prescaleValue_tableOf_clampFreq g f, fun p hp => ⟨fun hw => ?_, fun hs => ?_⟩⟩⟩
  · rw [prescaleByte_toNat_of_wrap hw, hp, prescaleValue_tableOf_clampFreq]
  · rw [prescaleByte_toNat_of_saturate hs, hp, prescaleValue_tableOf_clampFreq]

/-! ## The latches -/

/-- The lines that write a latch: `computePresc` writes presc, `readMode` writes oldMode (41_frequency.md R108). -/
def Action.writesLatch : Action → Bool
  | .computePresc => true
  | .readMode => true
  | _ => false

/-- Both latches of `t` hold what they held in `s`. -/
def SameLatches (s t : State) : Prop := t.oldMode = s.oldMode ∧ t.presc = s.presc

theorem SameLatches.trans {s t u : State} (h : SameLatches s t) (h' : SameLatches t u) : SameLatches s u :=
  ⟨h'.1.trans h.1, h'.2.trans h.2⟩

theorem SameLatches.setPending {s t : State} (h : SameLatches s t) (rest : List Action) :
    SameLatches s (t.setPending rest) := h

theorem SameLatches.finish {s t : State} (h : SameLatches s t) (status : Status) : SameLatches s (t.finish status) := h

theorem State.perform_ok_sameLatches {s t : State} {a : Action} (ha : a.writesLatch = false) (h : s.perform a = .ok t) :
    SameLatches s t := by
  rcases State.perform_ok h with ⟨_, rfl, rfl⟩ | ⟨_, rfl, rfl⟩ | ⟨_, rfl, rfl⟩ | ⟨rfl, rfl⟩ | ⟨_, rfl, _, rfl⟩ |
    ⟨_, _, rfl, _, rfl⟩ | ⟨_, _, rfl, rfl⟩ | ⟨_, _, rfl, rfl⟩ | ⟨_, rfl, rfl⟩
  · exact ⟨rfl, rfl⟩
  · exact ⟨rfl, rfl⟩
  · exact ⟨rfl, rfl⟩
  · cases ha -- computePresc
  · cases ha -- readMode
  all_goals exact ⟨rfl, rfl⟩

/-- A line that fails writes no latch, whichever line it is. -/
theorem State.perform_error_sameLatches {s t : State} {a : Action} (h : s.perform a = .error t) : SameLatches s t := by
  obtain ⟨-, r, rfl, -⟩ := State.perform_error h
  exact ⟨rfl, rfl⟩

theorem State.drive_sameLatches (s : State) {body : List Action} (hbody : ∀ a ∈ body, a.writesLatch = false) :
    SameLatches s (s.drive body) := by
  refine State.drive_induct (P := SameLatches s) (Q := SameLatches s) body s ⟨rfl, rfl⟩ ?_ ?_ ?_
  · exact fun u hu => hu.finish _
  · exact fun a ha u t rest hu hp => (hu.setPending rest).trans (State.perform_ok_sameLatches (hbody a ha) hp)
  · exact fun a _ u t rest hu hp => ((hu.setPending rest).trans (State.perform_error_sameLatches hp)).finish _

/-- Only the rules of SETFREQ and INIT have a line that writes a latch. -/
theorem ruleBody_writesNoLatch {i : Instr} (hsetfreq : ∀ f, i ≠ .setfreq f) (hinit : i ≠ .init) :
    ∀ a ∈ ruleBody i, a.writesLatch = false := by
  cases i with
  | setfreq f => exact absurd rfl (hsetfreq f)
  | init => exact absurd rfl hinit
  | _ => simp [ruleBody, resetBody, Action.writesLatch]

/-! ## The frame of a command -/

theorem exec_frame {i : Instr} {s t : State} (h : exec i s = .next t) :
    t.params = s.params ∧ t.commands = s.commands ∧ t.busy = false := by
  rcases exec_next h with ⟨-, rfl⟩ | ⟨-, k, rfl⟩
  · exact ⟨rfl, rfl, rfl⟩
  · have e := State.drive_ends (s.start (ruleBody i)) (ruleBody i)
    exact ⟨e.params, e.commands, e.idle⟩

theorem exec_sameLatches {i : Instr} {s t : State} (hsetfreq : ∀ f, i ≠ .setfreq f) (hinit : i ≠ .init)
    (h : exec i s = .next t) : SameLatches s t := by
  rcases exec_next h with ⟨-, rfl⟩ | ⟨-, k, rfl⟩
  · exact ⟨rfl, rfl⟩
  · exact State.drive_sameLatches (s.start (ruleBody i)) (ruleBody_writesNoLatch hsetfreq hinit)

/-- Settles O42: the frame that running lines has in every rule, and the latches line by line. -/
theorem frameOfEveryCommand : Obligations.FrameOfEveryCommand := by
  intro i s t h
  obtain ⟨hparams, hcommands, hidle⟩ := exec_frame h
  exact ⟨hparams, hcommands, hidle, fun hsetfreq hinit => exec_sameLatches hsetfreq hinit h⟩

end Sys2Proof.Machine

/-! What PSDE holds and what every step keeps (10_state.md): the machine's invariant, who writes ADDR and FREQ, the
device every record names, the latches between commands, and a command as its lines one at a time. -/

namespace Sys2Proof.Machine

open Sys2Proof.Config

/-! ## The command port and power-on -/

/-- Settles O10: the word's case of `step_presented`. -/
theorem stepRunsDecodedCommand : Obligations.StepRunsDecodedCommand := by
  intro s w rest i hidle hcommands hdecode
  rw [step_presented hidle hcommands, hdecode]

/-- Settles O12: a busy step is the running command driven to its end, which `State.drive_ends` describes. -/
theorem nothingTakenWhileBusy : Obligations.NothingTakenWhileBusy := by
  intro s t hbusy h
  rcases step_next h with ⟨-, k, rfl⟩ | ⟨hidle, -⟩ | ⟨w, rest, hidle, -⟩
  · have e := State.drive_ends s s.pending
    exact ⟨e.commands, e.idle, e.reported⟩
  · exact absurd (hbusy.symm.trans hidle) (by decide)
  · exact absurd (hbusy.symm.trans hidle) (by decide)

/-- Settles O13: the waiting case of `step`. -/
theorem idleWaitsForCommand : Obligations.IdleWaitsForCommand := fun _ hidle hcommands => step_waiting hidle hcommands

/-- Settles O14: the fields of `State.reset`. -/
theorem powerOnState : Obligations.PowerOnState := ⟨rfl, rfl, rfl, rfl, rfl⟩

/-! ## The record a line adds to the trace -/

/-- `r` is a record that the line `a` may add to the trace of `s`: it carries ADDR, and it is an allowed request if
the line is an allowed one. -/
structure IssuedBy (s : State) (a : Action) (r : Record) : Prop where
  device : r.device = s.addr
  allowed : a.allowed = true → r.request.allowed = true

/-- The block request of an allowed block line has length 4, as its data has. -/
theorem Request.block_allowed {start : Byte} {data : List Byte} (h : (Action.writeBlock start data).allowed = true) :
    (Request.block start (BitVec.ofNat 8 data.length) data true).allowed = true := by
  simp only [Action.allowed, Bool.and_eq_true, beq_iff_eq] at h
  simp [Request.allowed, h]

/-- A line that succeeds issues nothing or one request, which completed. -/
theorem State.perform_ok_trace {s t : State} {a : Action} (h : s.perform a = .ok t) :
    t.trace = s.trace ∨ ∃ r, t.trace = s.trace ++ [r] ∧ r.hasFailed = false ∧ IssuedBy s a r := by
  rcases State.perform_ok h with ⟨_, rfl, rfl⟩ | ⟨_, rfl, rfl⟩ | ⟨_, rfl, rfl⟩ | ⟨rfl, rfl⟩ | ⟨_, rfl, _, rfl⟩ |
    ⟨_, _, rfl, _, rfl⟩ | ⟨_, _, rfl, rfl⟩ | ⟨_, _, rfl, rfl⟩ | ⟨_, rfl, rfl⟩
  · exact .inl rfl -- loadAddr
  · exact .inl rfl -- loadFreq
  · exact .inl rfl -- clampFreq
  · exact .inl rfl -- computePresc
  · exact .inr ⟨_, rfl, rfl, rfl, fun _ => rfl⟩ -- readMode
  · exact .inr ⟨_, rfl, rfl, rfl, fun _ => rfl⟩ -- readReg
  · exact .inr ⟨_, rfl, rfl, rfl, fun _ => rfl⟩ -- writeReg
  · exact .inr ⟨_, rfl, rfl, rfl, Request.block_allowed⟩ -- writeBlock
  · exact .inr ⟨_, rfl, rfl, rfl, id⟩ -- delay

/-- A line that fails has issued one request, which failed. -/
theorem State.perform_error_trace {s t : State} {a : Action} (h : s.perform a = .error t) :
    ∃ r, t.trace = s.trace ++ [r] ∧ r.hasFailed = true ∧ IssuedBy s a r := by
  obtain ⟨-, r, rfl, hline⟩ := State.perform_error h
  refine ⟨_, rfl, rfl, rfl, ?_⟩
  rcases hline with ⟨rfl, rfl⟩ | ⟨_, rfl, rfl⟩ | ⟨_, _, rfl, rfl⟩ | ⟨_, _, rfl, rfl⟩
  · exact fun _ => rfl
  · exact fun _ => rfl
  · exact fun _ => rfl
  · exact Request.block_allowed

/-- A line that fails leaves the registers, the history and `busy`. -/
theorem State.perform_error_frame {s t : State} {a : Action} (h : s.perform a = .error t) :
    t.addr = s.addr ∧ t.freq = s.freq ∧ t.history = s.history ∧ t.busy = s.busy := by
  obtain ⟨-, r, rfl, -⟩ := State.perform_error h
  exact ⟨rfl, rfl, rfl, rfl⟩

/-! ## Which commands have which lines -/

theorem channelBase_mod_four (ch : Byte) : (channelBase ch).toNat % 4 = 2 := by
  have : led0OnL.toNat = 6 := rfl
  simp only [channelBase, BitVec.toNat_ofNat]
  omega

theorem writePair_allowed (ch : Byte) (on off : Half) :
    (Action.writeBlock (channelBase ch) (pairBytes on off)).allowed = true := by
  simp [Action.allowed, channelBase_mod_four, pairBytes]

theorem ruleBody_allowed (i : Instr) : ∀ a ∈ ruleBody i, a.allowed = true := by
  cases i with
  | setticks ch on off => simp [ruleBody, writePair_allowed]
  | setpct ch duty => simp [ruleBody, writePair_allowed]
  | setlvl ch ticks inv => simp [ruleBody, writePair_allowed]
  | _ => simp [ruleBody, resetBody, setfreqBody, Action.allowed, resetDelayMs, prescaleSettleMs]

/-- Only the rule of CFG loads a register verbatim (40_lifecycle.md R80). -/
theorem ruleBody_loadsNothing {i : Instr} (hcfg : ∀ a f, i ≠ .cfg a f) :
    (∀ v, .loadAddr v ∉ ruleBody i) ∧ ∀ v, .loadFreq v ∉ ruleBody i := by
  cases i with
  | cfg a f => exact absurd rfl (hcfg a f)
  | _ => simp [ruleBody, resetBody, setfreqBody]

/-- Only the rules of SETFREQ and INIT clamp FREQ (41_frequency.md R108, 40_lifecycle.md R82). -/
theorem ruleBody_clampsNothing {i : Instr} (hsetfreq : ∀ f, i ≠ .setfreq f) (hinit : i ≠ .init) :
    ∀ f, .clampFreq f ∉ ruleBody i := by
  cases i with
  | setfreq f => exact absurd rfl (hsetfreq f)
  | init => exact absurd rfl hinit
  | _ => simp [ruleBody, resetBody]

/-! ## The invariant -/

/-- What the invariant says of a running command's trace and of the history: enough for the state its command ends in
to meet the invariant. -/
structure State.SoundSoFar (s : State) : Prop where
  trace_good : ∀ r ∈ s.trace, r.hasFailed = false ∧ r.request.allowed = true
  history_good : ∀ r ∈ s.history, r.consistent = true

theorem State.SoundSoFar.setPending {s : State} (h : s.SoundSoFar) (rest : List Action) :
    (s.setPending rest).SoundSoFar := ⟨h.trace_good, h.history_good⟩

theorem failsAtEnd_append_failed {trace : List Record} {r : Record} (hall : ∀ x ∈ trace, x.hasFailed = false)
    (hr : r.hasFailed = true) : failsAtEnd (trace ++ [r]) = true := by
  induction trace with
  | nil => exact hr
  | cons x rest ih =>
    have hx : x.hasFailed = false := hall x (by simp)
    have hrest : failsAtEnd (rest ++ [r]) = true := ih fun y hy => hall y (by simp [hy])
    cases rest with
    | nil => simp [failsAtEnd, hx, hr]
    | cons y ys => simpa [failsAtEnd, hx] using hrest

/-- A command that ends leaves nothing of itself but its report. -/
theorem State.finish_inv {s : State} {status : Status} (hhistory : ∀ r ∈ s.history, r.consistent = true)
    (hreport : Report.consistent
      ⟨s.trace, status, if status = .ok then s.result else none, s.hostWait s.trace⟩ = true) :
    (s.finish status).Inv where
  index_counts := rfl
  idle_clean _ := ⟨rfl, rfl, rfl⟩
  trace_good := by simp
  pending_good := by simp
  history_good := by simpa using ⟨hreport, hhistory⟩

theorem State.refuse_inv {s : State} (hhistory : ∀ r ∈ s.history, r.consistent = true) : s.refuse.Inv :=
  State.finish_inv hhistory rfl

/-- OK: no record of the trace failed. -/
theorem State.SoundSoFar.finish_ok {s : State} (h : s.SoundSoFar) : (s.finish .ok).Inv := by
  refine State.finish_inv h.history_good ?_
  simpa [Report.consistent, forall_and, and_comm] using h.trace_good

/-- TRANSPORT_FAILED: the failed record is the last one, and the result byte is dropped. -/
theorem State.SoundSoFar.finish_failed {s t : State} {r : Record} (h : s.SoundSoFar) (hhistory : t.history = s.history)
    (htrace : t.trace = s.trace ++ [r]) (hfailed : r.hasFailed = true) (hallowed : r.request.allowed = true) :
    (t.finish .transportFailed).Inv := by
  refine State.finish_inv (hhistory ▸ h.history_good) ?_
  have hend : failsAtEnd (s.trace ++ [r]) = true :=
    failsAtEnd_append_failed (fun x hx => (h.trace_good x hx).1) hfailed
  have hall : ∀ x ∈ s.trace, x.request.allowed = true := fun x hx => (h.trace_good x hx).2
  simpa [Report.consistent, htrace, hend, hallowed] using hall

theorem State.SoundSoFar.perform_ok {s t : State} {a : Action} (h : s.SoundSoFar) (ha : a.allowed = true)
    (hp : s.perform a = .ok t) : t.SoundSoFar := by
  obtain ⟨-, -, -, -, -, hhistory, -⟩ := State.perform_ok_frame hp
  refine ⟨?_, hhistory ▸ h.history_good⟩
  rcases State.perform_ok_trace hp with htrace | ⟨r, htrace, hdone, hissued⟩
  · exact htrace ▸ h.trace_good
  · rw [htrace, List.forall_mem_append]
    exact ⟨h.trace_good, by simp [hdone, hissued.allowed ha]⟩

/-- Running allowed lines to their end gives a state that meets the invariant. -/
theorem State.SoundSoFar.drive_inv {s : State} {body : List Action} (h : s.SoundSoFar)
    (hbody : ∀ a ∈ body, a.allowed = true) : (s.drive body).Inv := by
  refine State.drive_induct (P := State.SoundSoFar) body s h (fun u hu => hu.finish_ok) ?_ ?_
  · exact fun a ha u t rest hu hp => (hu.setPending rest).perform_ok (hbody a ha) hp
  · intro a ha u t rest hu hp
    obtain ⟨-, -, hhistory, -⟩ := State.perform_error_frame hp
    obtain ⟨r, htrace, hfailed, hissued⟩ := State.perform_error_trace hp
    exact hu.finish_failed hhistory htrace hfailed (hissued.allowed (hbody a ha))

theorem State.Inv.withSilentAfter {s : State} (h : s.Inv) (k : Option Nat) : State.Inv { s with silentAfter := k } :=
  ⟨h.index_counts, h.idle_clean, h.trace_good, h.pending_good, h.history_good⟩

/-- A command asks of the state it runs at only that its history is sound. -/
theorem exec_inv {i : Instr} {s t : State} (hhistory : ∀ r ∈ s.history, r.consistent = true)
    (h : exec i s = .next t) : t.Inv := by
  rcases exec_next h with ⟨-, rfl⟩ | ⟨-, k, rfl⟩
  · exact State.refuse_inv hhistory
  · have hstart : (s.start (ruleBody i)).SoundSoFar := ⟨by simp, hhistory⟩
    exact (hstart.drive_inv (ruleBody_allowed i)).withSilentAfter k

/-- Settles O38: a running command is driven to its end, an idle PSDE waits, or a word is run or refused. -/
theorem stepKeepsInvariant : Obligations.StepKeepsInvariant := by
  intro s t hs h
  rcases step_next h with ⟨-, k, rfl⟩ | ⟨-, -, rfl⟩ | ⟨w, rest, -, -, ⟨i, -, hi⟩ | ⟨-, rfl⟩⟩
  · have hsound : s.SoundSoFar := ⟨hs.trace_good, hs.history_good⟩
    exact (hsound.drive_inv hs.pending_good).withSilentAfter k
  · exact hs
  · exact exec_inv (s := { s with commands := rest }) hs.history_good hi
  · exact State.refuse_inv hs.history_good

/-- Settles O39: power-on holds no trace, no line and no report. -/
theorem resetMeetsInvariant : Obligations.ResetMeetsInvariant where
  index_counts := rfl
  idle_clean _ := ⟨rfl, rfl, rfl⟩
  trace_good := by simp [State.reset]
  pending_good := by simp [State.reset]
  history_good := by simp [State.reset]

/-! ## Who writes ADDR and FREQ -/

theorem State.perform_ok_addr {s t : State} {a : Action} (ha : ∀ v, a ≠ .loadAddr v) (h : s.perform a = .ok t) :
    t.addr = s.addr := by
  rcases State.perform_ok h with ⟨v, rfl, -⟩ | ⟨_, -, rfl⟩ | ⟨_, -, rfl⟩ | ⟨-, rfl⟩ | ⟨_, -, _, rfl⟩ |
    ⟨_, _, -, _, rfl⟩ | ⟨_, _, -, rfl⟩ | ⟨_, _, -, rfl⟩ | ⟨_, -, rfl⟩
  · exact absurd rfl (ha v)
  all_goals rfl

/-- A line that succeeds writes FREQ verbatim, clamps it, or leaves it. -/
theorem State.perform_ok_freq {s t : State} {a : Action} (h : s.perform a = .ok t) :
    (∃ v, a = .loadFreq v) ∨ (∃ f, a = .clampFreq f ∧ t.freq = clampFreq (f.getD s.freq)) ∨
    t.freq = s.freq := by
  rcases State.perform_ok h with ⟨_, -, rfl⟩ | ⟨v, rfl, -⟩ | ⟨f, rfl, rfl⟩ | ⟨-, rfl⟩ | ⟨_, -, _, rfl⟩ |
    ⟨_, _, -, _, rfl⟩ | ⟨_, _, -, rfl⟩ | ⟨_, _, -, rfl⟩ | ⟨_, -, rfl⟩
  · exact .inr (.inr rfl)
  · exact .inl ⟨v, rfl⟩
  · exact .inr (.inl ⟨f, rfl, rfl⟩)
  all_goals exact .inr (.inr rfl)

/-- A property of ADDR and FREQ that no line breaks holds where the command ends. -/
theorem State.drive_registers {P : Byte → Half → Prop} {s : State} {body : List Action} (h : P s.addr s.freq)
    (hok : ∀ a ∈ body, ∀ u t : State, P u.addr u.freq → u.perform a = .ok t → P t.addr t.freq) :
    P (s.drive body).addr (s.drive body).freq := by
  refine State.drive_induct (P := fun u => P u.addr u.freq) (Q := fun u => P u.addr u.freq) body s h
    (fun u hu => hu) (fun a ha u t rest hu hp => hok a ha (u.setPending rest) t hu hp) ?_
  intro a _ u t rest hu hp
  obtain ⟨haddr, hfreq, -⟩ := State.perform_error_frame hp
  simpa [haddr, hfreq] using hu

theorem State.drive_addr {s : State} {body : List Action} (hbody : ∀ v, .loadAddr v ∉ body) :
    (s.drive body).addr = s.addr :=
  State.drive_registers (P := fun addr _ => addr = s.addr) rfl fun _ ha _ _ hu hp =>
    (State.perform_ok_addr (fun v hv => hbody v (hv ▸ ha)) hp).trans hu

theorem State.drive_freq {s : State} {body : List Action} (hload : ∀ v, .loadFreq v ∉ body)
    (hclamp : ∀ f, .clampFreq f ∉ body) : (s.drive body).freq = s.freq := by
  refine State.drive_registers (P := fun _ freq => freq = s.freq) rfl fun a ha u t hu hp => ?_
  rcases State.perform_ok_freq hp with ⟨v, rfl⟩ | ⟨f, rfl, -⟩ | hfreq
  · exact absurd ha (hload v)
  · exact absurd ha (hclamp f)
  · exact hfreq.trans hu

/-- Settles O41: no other rule has a line that writes ADDR or FREQ. -/
theorem writersOfAddrAndFreq : Obligations.WritersOfAddrAndFreq := by
  intro i s t h
  rcases exec_next h with ⟨-, rfl⟩ | ⟨-, k, rfl⟩
  · exact ⟨fun _ => rfl, fun _ _ _ => rfl⟩
  · refine ⟨fun hcfg => State.drive_addr (ruleBody_loadsNothing hcfg).1, fun hcfg hsetfreq hinit => ?_⟩
    exact State.drive_freq (ruleBody_loadsNothing hcfg).2 (ruleBody_clampsNothing hsetfreq hinit)

/-! ## FREQ stays in its range (10_state.md R22) -/

/-- FREQ holds a frequency that the clamp leaves as it is. -/
def FreqInRange (f : Half) : Prop := 24 ≤ f.toNat ∧ f.toNat ≤ 1526

theorem clampFreq_inRange (f : Half) : FreqInRange (clampFreq f) := ⟨minFreq_le_clampFreq f, clampFreq_le_maxFreq f⟩

theorem State.drive_freqInRange {s : State} {body : List Action} (h : FreqInRange s.freq)
    (hload : ∀ v, .loadFreq v ∉ body) : FreqInRange (s.drive body).freq := by
  refine State.drive_registers (P := fun _ freq => FreqInRange freq) h fun a ha u t hu hp => ?_
  rcases State.perform_ok_freq hp with ⟨v, rfl⟩ | ⟨f, -, hfreq⟩ | hfreq
  · exact absurd ha (hload v)
  · exact hfreq ▸ clampFreq_inRange _
  · exact hfreq ▸ hu

/-- R108 clamps FREQ before anything can fail (41_frequency.md R109). -/
theorem State.drive_setfreqBody_freqInRange (s : State) (operand : Option Half) :
    FreqInRange (s.drive (setfreqBody operand)).freq := by
  rw [setfreqBody, State.drive_cons_ok rfl]
  exact State.drive_freqInRange (clampFreq_inRange _) (by simp)

/-- An accepted write takes the command on to its next line. -/
theorem State.drive_writeReg_success {s : State} {b : Byte} (h : s.reply 0 = .success b) (reg : Byte)
    (source : ByteSource) (rest : List Action) :
    s.drive (.writeReg reg source :: rest) =
      ((s.setPending rest).takeAnswer.record (.write reg (s.sourceByte source)) .done).drive rest :=
  State.drive_cons_ok (State.send_success (s := s.setPending rest) h _)

/-- After an accepted reset write, INIT comes to the rule of SETFREQ. -/
theorem State.drive_init_freqInRange {s : State} (h : s.accepts 0 = true) :
    FreqInRange (s.drive (ruleBody .init)).freq := by
  obtain ⟨b, hb⟩ := State.accepts_eq_true.1 h
  rw [ruleBody, resetBody, List.cons_append, State.drive_writeReg_success hb, List.cons_append, State.drive_cons_ok rfl]
  exact State.drive_setfreqBody_freqInRange _ _

/-- Settles O27: the clamp puts FREQ in range, and no line but CFG's takes it out. -/
theorem freqStaysInRange : Obligations.FreqStaysInRange := by
  intro i s t h
  rcases exec_next h with ⟨hrefused, rfl⟩ | ⟨-, k, rfl⟩
  · refine ⟨?_, fun _ hmin hmax => ⟨hmin, hmax⟩, ?_⟩
    · rintro (⟨f, rfl⟩ | ⟨rfl, -⟩) <;> cases hrefused
    · rintro a f rfl
      cases hrefused
  · refine ⟨?_, fun hcfg hmin hmax => State.drive_freqInRange ⟨hmin, hmax⟩ (ruleBody_loadsNothing hcfg).2, ?_⟩
    · rintro (⟨f, rfl⟩ | ⟨rfl, haccepts⟩)
      · exact State.drive_setfreqBody_freqInRange _ _
      · exact State.drive_init_freqInRange (s := s.start (ruleBody .init)) haccepts
    · rintro a f rfl
      rfl

/-! ## The device of every record (10_state.md R29) -/

/-- Running lines that leave ADDR issues every request with the ADDR it began with. -/
theorem State.drive_report_device {s : State} {body : List Action} (hload : ∀ v, .loadAddr v ∉ body)
    (htrace : ∀ x ∈ s.trace, x.device = s.addr) :
    ∃ r, (s.drive body).history = r :: s.history ∧ ∀ x ∈ r.trace, x.device = s.addr := by
  refine State.drive_induct
    (P := fun u => u.addr = s.addr ∧ u.history = s.history ∧ ∀ x ∈ u.trace, x.device = s.addr)
    (Q := fun u => ∃ r, u.history = r :: s.history ∧ ∀ x ∈ r.trace, x.device = s.addr) body s
    ⟨rfl, rfl, htrace⟩ ?_ ?_ ?_
  · exact fun u ⟨_, hhistory, hdevice⟩ => ⟨_, congrArg (_ :: ·) hhistory, hdevice⟩
  · intro a ha u t rest ⟨haddr, hhistory, hdevice⟩ hp
    obtain ⟨-, -, -, -, -, hhist, -⟩ := State.perform_ok_frame hp
    refine ⟨(State.perform_ok_addr (fun v hv => hload v (hv ▸ ha)) hp).trans haddr, hhist.trans hhistory, ?_⟩
    rcases State.perform_ok_trace hp with htrace | ⟨r, htrace, -, hissued⟩
    · exact htrace ▸ hdevice
    · rw [htrace, List.forall_mem_append]
      exact ⟨hdevice, by simpa using hissued.device.trans haddr⟩
  · intro a ha u t rest ⟨haddr, hhistory, hdevice⟩ hp
    obtain ⟨-, -, hhist, -⟩ := State.perform_error_frame hp
    obtain ⟨r, htrace, -, hissued⟩ := State.perform_error_trace hp
    refine ⟨_, congrArg (_ :: ·) (hhist.trans hhistory), ?_⟩
    rw [htrace, List.forall_mem_append]
    exact ⟨hdevice, by simpa using hissued.device.trans haddr⟩

/-- Settles O43: CFG, which writes ADDR, issues nothing; every other rule leaves ADDR. -/
theorem everyRequestCarriesAddr : Obligations.EveryRequestCarriesAddr := by
  intro i s t h
  rcases exec_next h with ⟨-, rfl⟩ | ⟨-, k, rfl⟩
  · exact ⟨_, s.refuse_history, by simp⟩
  · by_cases hcfg : ∃ a f, i = .cfg a f
    · obtain ⟨a, f, rfl⟩ := hcfg
      exact ⟨_, rfl, by simp⟩
    · push Not at hcfg
      exact State.drive_report_device (s := s.start (ruleBody i)) (ruleBody_loadsNothing hcfg).1 (by simp)

/-! ## The latches between commands (10_state.md R26) -/

/-- The source needs no latch but those that are known: oldMode if `m`, presc if `p`. -/
def ByteSource.knownFrom (m p : Bool) : ByteSource → Bool
  | .literal _ => true
  | .presc => p
  | .oldMode => m
  | .sleepMode => m
  | .resumeMode => m

/-- Every latch is written before a line reads it; `m` and `p` say whether oldMode and presc have been written. -/
def readsOnlyWritten (m p : Bool) : List Action → Bool
  | [] => true
  | .computePresc :: rest => readsOnlyWritten m true rest
  | .readMode :: rest => readsOnlyWritten true p rest
  | .writeReg _ source :: rest => source.knownFrom m p && readsOnlyWritten m p rest
  | _ :: rest => readsOnlyWritten m p rest

theorem ruleBody_readsOnlyWritten (i : Instr) : readsOnlyWritten false false (ruleBody i) = true := by
  cases i <;> rfl

/-- `t` is `s` with other latches, but the same oldMode if `m` and the same presc if `p`. -/
def SameUpToLatches (m p : Bool) (s t : State) : Prop :=
  ∃ x y, t = (s.setOldMode x).setPresc y ∧ (m = true → x = s.oldMode) ∧ (p = true → y = s.presc)

theorem State.sourceByte_of_known {s : State} {x y : Byte} {m p : Bool} (hx : m = true → x = s.oldMode)
    (hy : p = true → y = s.presc) {source : ByteSource} (h : source.knownFrom m p = true) :
    ((s.setOldMode x).setPresc y).sourceByte source = s.sourceByte source := by
  cases source with
  | literal v => rfl
  | presc => exact hy h
  | oldMode => exact hx h
  | sleepMode => exact congrArg sleepMode (hx h)
  | resumeMode => exact congrArg (resumeMode s.params) (hx h)

theorem SameUpToLatches.setPending {m p : Bool} {s t : State} (h : SameUpToLatches m p s t) (rest : List Action) :
    SameUpToLatches m p (s.setPending rest) (t.setPending rest) := by
  obtain ⟨x, y, rfl, hx, hy⟩ := h
  exact ⟨x, y, rfl, hx, hy⟩

/-- The two runs take the same answer and issue the same request. -/
theorem SameUpToLatches.issue {m p : Bool} {s t : State} (h : SameUpToLatches m p s t) (r : Request) (c : Completion) :
    SameUpToLatches m p (s.takeAnswer.record r c) (t.takeAnswer.record r c) := by
  obtain ⟨x, y, rfl, hx, hy⟩ := h
  exact ⟨x, y, rfl, hx, hy⟩

theorem SameUpToLatches.reply {m p : Bool} {s t : State} (h : SameUpToLatches m p s t) (k : Nat) :
    t.reply k = s.reply k := by
  obtain ⟨x, y, rfl, -⟩ := h
  rfl

/-- Two results of one line: both failed, in states that are the same but for the latches, or both succeeded, and
then what is known of the latches is enough for the lines that are left. -/
def SameResult (rest : List Action) : Except State State → Except State State → Prop
  | .ok u, .ok v => ∃ m p, SameUpToLatches m p u v ∧ readsOnlyWritten m p rest = true
  | .error u, .error v => v.withoutLatches = u.withoutLatches
  | _, _ => False

theorem SameUpToLatches.withoutLatches {m p : Bool} {s t : State} (h : SameUpToLatches m p s t) :
    t.withoutLatches = s.withoutLatches := by
  obtain ⟨x, y, rfl, -⟩ := h
  rfl

theorem SameUpToLatches.send {m p : Bool} {s t : State} {rest : List Action} (h : SameUpToLatches m p s t)
    (hrest : readsOnlyWritten m p rest = true) (r : Request) : SameResult rest (s.send r) (t.send r) := by
  cases hr : s.reply 0 with
  | success b =>
    rw [State.send_success hr, State.send_success ((h.reply 0).trans hr)]
    exact ⟨m, p, h.issue _ _, hrest⟩
  | failure =>
    rw [State.send_failure hr, State.send_failure ((h.reply 0).trans hr)]
    exact (h.issue _ _).withoutLatches

/-- A line that reads only known latches does the same in both runs; one that writes a latch makes it known. -/
theorem SameUpToLatches.perform {m p : Bool} {s t : State} {a : Action} {rest : List Action}
    (h : SameUpToLatches m p s t) (hreads : readsOnlyWritten m p (a :: rest) = true) :
    SameResult rest (s.perform a) (t.perform a) := by
  have hreply := h.reply 0
  obtain ⟨x, y, rfl, hx, hy⟩ := h
  cases a with
  | loadAddr addr => exact ⟨m, p, ⟨x, y, rfl, hx, hy⟩, hreads⟩
  | loadFreq freq => exact ⟨m, p, ⟨x, y, rfl, hx, hy⟩, hreads⟩
  | clampFreq operand => exact ⟨m, p, ⟨x, y, rfl, hx, hy⟩, hreads⟩
  | computePresc => exact ⟨m, true, ⟨x, _, rfl, hx, fun _ => rfl⟩, hreads⟩
  | readMode =>
    cases hr : s.reply 0 with
    | success v =>
      simp only [State.perform, State.fetchByte_success hr, State.fetchByte_success (hreply.trans hr)]
      exact ⟨true, p, ⟨v, y, rfl, fun _ => rfl, hy⟩, hreads⟩
    | failure =>
      simp only [State.perform, State.fetchByte_failure hr, State.fetchByte_failure (hreply.trans hr)]
      rfl
  | readReg reg =>
    cases hr : s.reply 0 with
    | success v =>
      simp only [State.perform, State.fetchByte_success hr, State.fetchByte_success (hreply.trans hr)]
      exact ⟨m, p, ⟨x, y, rfl, hx, hy⟩, hreads⟩
    | failure =>
      simp only [State.perform, State.fetchByte_failure hr, State.fetchByte_failure (hreply.trans hr)]
      rfl
  | writeReg reg source =>
    obtain ⟨hsource, hrest⟩ := Bool.and_eq_true_iff.1 hreads
    simp only [State.perform, State.sourceByte_of_known hx hy hsource]
    exact SameUpToLatches.send ⟨x, y, rfl, hx, hy⟩ hrest _
  | writeBlock start data => exact SameUpToLatches.send ⟨x, y, rfl, hx, hy⟩ hreads _
  | delay ms => exact ⟨m, p, ⟨x, y, rfl, hx, hy⟩, hreads⟩

theorem State.withoutLatches_finish (s : State) (status : Status) :
    (s.finish status).withoutLatches = s.withoutLatches.finish status := rfl

/-- Lines that read only known latches end the same, but for the latches. -/
theorem SameUpToLatches.drive {m p : Bool} {s t : State} {body : List Action} (h : SameUpToLatches m p s t)
    (hreads : readsOnlyWritten m p body = true) : (t.drive body).withoutLatches = (s.drive body).withoutLatches := by
  induction body generalizing m p s t with
  | nil => exact congrArg (·.finish .ok) h.withoutLatches
  | cons a rest ih =>
    have hline := (h.setPending rest).perform hreads
    cases hs : (s.setPending rest).perform a <;> cases ht : (t.setPending rest).perform a <;> rw [hs, ht] at hline
    case ok.ok =>
      obtain ⟨m', p', h', hrest⟩ := hline
      rw [State.drive_cons_ok hs, State.drive_cons_ok ht]
      exact ih h' hrest
    case error.error u v =>
      rw [State.drive_cons_error hs, State.drive_cons_error ht, State.withoutLatches_finish, hline]
      rfl
    all_goals exact hline.elim

@[simp] theorem State.withoutLatches_draws (s : State) : s.withoutLatches.draws = s.draws := rfl
@[simp] theorem State.withoutLatches_silentAfter (s : State) : s.withoutLatches.silentAfter = s.silentAfter := rfl

/-- Whether the transport falls silent depends on no latch. -/
theorem outcomeWithoutLatches_answered (s t : State) :
    outcomeWithoutLatches (s.answered t) = s.withoutLatches.answered t.withoutLatches := by
  unfold State.answered
  cases hn : s.silentAfter with
  | none => simp [hn, outcomeWithoutLatches]
  | some n =>
    simp only [State.withoutLatches_silentAfter, State.withoutLatches_draws, hn]
    exact apply_ite outcomeWithoutLatches _ _ _

/-- No command's outcome, apart from the latches, depends on what they held when it began. -/
theorem exec_withoutLatches (i : Instr) (s : State) (a b : Byte) :
    outcomeWithoutLatches (exec i ((s.setOldMode a).setPresc b)) = outcomeWithoutLatches (exec i s) := by
  rw [exec_eq, exec_eq, State.setPresc_params, State.setOldMode_params]
  cases refusedChannel s.params i with
  | true => rfl
  | false =>
    have hstart : SameUpToLatches false false (s.start (ruleBody i))
        (((s.setOldMode a).setPresc b).start (ruleBody i)) := ⟨a, b, rfl, by simp, by simp⟩
    have hend := hstart.drive (ruleBody_readsOnlyWritten i)
    simp only [Bool.false_eq_true, if_false, State.run, outcomeWithoutLatches_answered, hend]
    rfl

/-- Settles O45: an idle step waits, refuses, or runs a command, whose rule writes each latch before it reads it. -/
theorem latchesAreDeadBetweenCommands : Obligations.LatchesAreDeadBetweenCommands := by
  intro s a b hidle
  have hidle' : ((s.setOldMode a).setPresc b).busy = false := hidle
  cases hc : s.commands with
  | nil =>
    rw [step_waiting hidle hc, step_waiting hidle' hc]
    rfl
  | cons w rest =>
    rw [step_presented hidle hc, step_presented hidle' hc]
    cases decode w with
    | ok i => exact exec_withoutLatches i { s with commands := rest } a b
    | error e => rfl

/-! ## A command as its lines, one at a time (10_state.md R24) -/

theorem State.advanceTimes_idle {s : State} (h : s.busy = false) (n : Nat) : s.advanceTimes n = s := by
  cases n <;> simp [State.advanceTimes, h]

theorem State.advanceTimes_busy {s : State} (h : s.busy = true) (n : Nat) :
    s.advanceTimes (n + 1) = s.advance.advanceTimes n := by
  simp [State.advanceTimes, h]

theorem State.advance_last {s : State} (h : s.pending = []) : s.advance = s.finish .ok := by
  simp [State.advance, h]

theorem State.advance_ok {s t : State} {a : Action} {rest : List Action} (h : s.pending = a :: rest)
    (hp : (s.setPending rest).perform a = .ok t) : s.advance = t := by
  simp [State.advance, h, hp]

theorem State.advance_error {s t : State} {a : Action} {rest : List Action} (h : s.pending = a :: rest)
    (hp : (s.setPending rest).perform a = .error t) : s.advance = t.finish .transportFailed := by
  simp [State.advance, h, hp]

/-- One advance for each line left and one for the status. -/
theorem State.advanceTimes_eq_drive {s : State} {body : List Action} (hbusy : s.busy = true)
    (hbody : s.pending = body) : s.advanceTimes (body.length + 1) = s.drive body := by
  induction body generalizing s with
  | nil => rw [State.advanceTimes_busy hbusy, State.advance_last hbody]; rfl
  | cons a rest ih =>
    rw [State.advanceTimes_busy hbusy]
    cases hp : (s.setPending rest).perform a with
    | ok t =>
      obtain ⟨-, -, -, hb, hrest, -⟩ := State.perform_ok_frame hp
      rw [State.advance_ok hbody hp, State.drive_cons_ok hp]
      exact ih (hb.trans hbusy) hrest
    | error t =>
      rw [State.advance_error hbody hp, State.drive_cons_error hp]
      exact State.advanceTimes_idle rfl _

/-- Settles O46, by induction on the lines left. -/
theorem commandIsItsTransactionsInOrder : Obligations.CommandIsItsTransactionsInOrder :=
  fun _ hbusy => State.advanceTimes_eq_drive hbusy rfl

end Sys2Proof.Machine

/-! One request at a time (20_memory.md R51): what one line of a running command draws from the transport and adds to
the trace. -/

namespace Sys2Proof.Machine

open Sys2Proof.Config

/-- A line that succeeds has asked the transport at most once. -/
theorem State.perform_ok_draws_le {s t : State} {a : Action} (h : s.perform a = .ok t) : t.draws ≤ s.draws + 1 := by
  rcases State.perform_ok h with ⟨_, -, rfl⟩ | ⟨_, -, rfl⟩ | ⟨_, -, rfl⟩ | ⟨-, rfl⟩ | ⟨_, -, -, rfl⟩ |
    ⟨_, _, -, -, rfl⟩ | ⟨_, _, -, rfl⟩ | ⟨_, _, -, rfl⟩ | ⟨_, -, rfl⟩ <;> simp

/-- A line that fails has asked the transport once. -/
theorem State.perform_error_draws {s t : State} {a : Action} (h : s.perform a = .error t) : t.draws = s.draws + 1 := by
  obtain ⟨-, r, rfl, -⟩ := State.perform_error h
  rfl

/-- Settles O47: the end of the lines issues nothing, a line that succeeds issues nothing or one request, and a line
that fails has issued one. -/
theorem oneRequestAtATime : Obligations.OneRequestAtATime := by
  intro s hbusy
  cases hpending : s.pending with
  | nil =>
    rw [State.advance_last hpending]
    exact ⟨⟨Nat.le_refl _, Nat.le_succ _⟩, [], by simp, .inr ⟨rfl, _, rfl, (List.append_nil _).symm⟩⟩
  | cons a rest =>
    cases hp : (s.setPending rest).perform a with
    | ok t =>
      rw [State.advance_ok hpending hp]
      obtain ⟨-, -, -, hb, -, hhistory, -, hdraws⟩ := State.perform_ok_frame hp
      refine ⟨⟨hdraws, State.perform_ok_draws_le (s := s.setPending rest) hp⟩, ?_⟩
      rcases State.perform_ok_trace hp with htrace | ⟨r, htrace, -⟩
      · exact ⟨[], by simp, .inl ⟨hb.trans hbusy, htrace.trans (List.append_nil _).symm, hhistory⟩⟩
      · exact ⟨[r], by simp, .inl ⟨hb.trans hbusy, htrace, hhistory⟩⟩
    | error t =>
      rw [State.advance_error hpending hp]
      have hdraws : t.draws = s.draws + 1 := State.perform_error_draws (s := s.setPending rest) hp
      obtain ⟨-, -, hhistory, -⟩ := State.perform_error_frame hp
      obtain ⟨r, htrace, -⟩ := State.perform_error_trace hp
      exact ⟨by simp [hdraws], [r], by simp, .inr ⟨rfl, _, congrArg (_ :: ·) hhistory, htrace⟩⟩

end Sys2Proof.Machine

/-! The encoding (30_encoding.md): the word's fields under the encoder and the decoder, the decoder as an equivalence,
the refused words, and the assembler's lines. -/

namespace Sys2Proof

/-! ## A field of a word (R60, R62) -/

theorem getLsbD_placed {n : Nat} (v : BitVec n) (low i : Nat) :
    (placed v low).getLsbD i = (decide (i < 48) && decide (low ≤ i) && v.getLsbD (i - low)) := by
  simp only [placed, BitVec.getLsbD_shiftLeft, BitVec.getLsbD_setWidth]
  by_cases hi : i < 48
  · have hsub : i - low < 48 := by omega
    simp [hi, hsub, ← decide_not]
  · simp [hi]

/-- A field read where it was placed is the value placed there. -/
theorem extract_placed_same {n : Nat} (v : BitVec n) {low : Nat} (h : low + n ≤ 48) :
    (placed v low).extractLsb' low n = v := by
  refine BitVec.eq_of_getLsbD_eq fun i hi => ?_
  rw [BitVec.getLsbD_extractLsb', getLsbD_placed]
  have h48 : low + i < 48 := by omega
  simp [hi, h48]

/-- A field read elsewhere does not see it. -/
theorem extract_placed_disjoint {n : Nat} (v : BitVec n) {low low' n' : Nat} (h : low + n ≤ low' ∨ low' + n' ≤ low) :
    (placed v low).extractLsb' low' n' = 0 := by
  refine BitVec.eq_of_getLsbD_eq fun i hi => ?_
  rw [BitVec.getLsbD_extractLsb', getLsbD_placed]
  rcases h with h | h
  · have : n ≤ low' + i - low := by omega
    simp [BitVec.getLsbD_of_ge _ _ this]
  · have : ¬ low ≤ low' + i := by omega
    simp [this]

/-- A mask with zeros on a field removes what is placed there. -/
theorem placed_and_eq_zero {n : Nat} (v : BitVec n) {low : Nat} {mask : Word48} (h : mask.extractLsb' low n = 0) :
    placed v low &&& mask = 0 := by
  refine BitVec.eq_of_getLsbD_eq fun i hi => ?_
  rw [BitVec.getLsbD_and, getLsbD_placed]
  by_cases hl : low ≤ i
  · by_cases hn : i - low < n
    · have hbit : mask.getLsbD i = false := by
        simpa [hn, Nat.add_sub_cancel' hl] using congrArg (·.getLsbD (i - low)) h
      simp [hbit]
    · simp [BitVec.getLsbD_of_ge v _ (not_lt.mp hn)]
  · simp [hl]

/-- Taking a field and placing it again keeps the field's bits and clears the others. -/
theorem placed_extract (w : Word48) (low n : Nat) :
    placed (w.extractLsb' low n) low = w &&& placed (BitVec.allOnes n) low := by
  refine BitVec.eq_of_getLsbD_eq fun i hi => ?_
  rw [BitVec.getLsbD_and, getLsbD_placed, getLsbD_placed, BitVec.getLsbD_extractLsb', BitVec.getLsbD_allOnes]
  by_cases hl : low ≤ i
  · simp [hi, hl, Bool.and_comm]
  · simp [hl]

/-- The one-bit field `inv`, read as the other fields are. -/
theorem fieldInv_eq (w : Word48) : fieldInv w = (w.extractLsb' 16 1).getLsbD 0 := by
  simp [fieldInv]

theorem ofBool_fieldInv (w : Word48) : BitVec.ofBool (fieldInv w) = w.extractLsb' 16 1 := by
  refine BitVec.eq_of_getLsbD_eq fun i hi => ?_
  obtain rfl : i = 0 := by omega
  simp [fieldInv]

/-! ## The opcode map (R61, R66) -/

/-- The `op` of a command's row in R66. -/
def opcode : Instr → Nat
  | .cfg _ _ => 1
  | .init => 2
  | .rst => 3
  | .setfreq _ => 4
  | .setticks _ _ _ => 5
  | .setpct _ _ => 6
  | .setlvl _ _ _ => 7
  | .rdreg _ => 8
  | .wrreg _ _ => 9

theorem opcode_of_operandsOf {op : Nat} {w : Word48} {i : Instr} (h : operandsOf op w = some i) : opcode i = op := by
  unfold operandsOf at h
  split at h <;> cases h <;> rfl

/-- Each mask covers the four bits of `op`, and each match holds `op` there. -/
theorem extract_op_of_maskOf {op : Nat} {mask : Word48} (h : maskOf op = some mask) :
    mask.extractLsb' 44 4 = BitVec.allOnes 4 ∧ opOf (matchOf op) = op := by
  unfold maskOf at h
  split at h <;> cases h <;> decide

/-- The masked comparison alone fixes the word's `op`. -/
theorem opOf_of_mask {w : Word48} {op : Nat} {mask : Word48} (hm : maskOf op = some mask)
    (hw : w &&& mask = matchOf op) : opOf w = op := by
  obtain ⟨hones, hmatch⟩ := extract_op_of_maskOf hm
  calc opOf w = opOf (w &&& mask) := by simp only [opOf, BitVec.extractLsb'_and, hones, BitVec.and_allOnes]
    _ = op := by rw [hw, hmatch]

/-- The decoder as an equivalence: a command's fields and the masked comparison of its own op. -/
theorem decode_eq_ok_iff {w : Word48} {i : Instr} {op : Nat} {mask : Word48} (hop : opcode i = op)
    (hm : maskOf op = some mask) : decode w = .ok i ↔ operandsOf op w = some i ∧ w &&& mask = matchOf op := by
  constructor
  · intro h
    obtain ⟨mask', hm', hi, hw⟩ := decode_ok h
    obtain rfl : op = opOf w := hop.symm.trans (opcode_of_operandsOf hi)
    obtain rfl : mask' = mask := Option.some.inj (hm'.symm.trans hm)
    exact ⟨hi, hw⟩
  · rintro ⟨hi, hw⟩
    exact decode_of_mask (opOf_of_mask hm hw) hm hi hw

/-! ## Encode and decode -/

/-- The encoder leaves 0 in the reserved bits and the match under the mask. -/
theorem encode_and_mask (i : Instr) {mask : Word48} (hm : maskOf (opcode i) = some mask) :
    encode i &&& mask = matchOf (opcode i) := by
  cases i <;> simp only [opcode, maskOf, Option.some.injEq] at hm ⊢ <;> subst hm <;>
    simp (disch := decide) [encode, BitVec.and_or_distrib_right, placed_and_eq_zero, matchOf]

theorem operandsOf_encode (i : Instr) : operandsOf (opcode i) (encode i) = some i := by
  cases i <;> simp [operandsOf, opcode, encode, fieldA, fieldB, fieldC, fieldReg, fieldLow, fieldInv_eq,
    BitVec.extractLsb'_or, extract_placed_same, extract_placed_disjoint]

theorem maskOf_opcode (i : Instr) : ∃ mask, maskOf (opcode i) = some mask := by
  cases i <;> exact ⟨_, rfl⟩

/-- The encoder of a word's operands gives the bits outside the mask back. -/
theorem encode_of_operandsOf {op : Nat} {w mask : Word48} {i : Instr} (hm : maskOf op = some mask)
    (hi : operandsOf op w = some i) : encode i = matchOf op ||| (w &&& ~~~mask) := by
  unfold operandsOf at hi
  split at hi <;> cases hi <;> cases hm <;>
    simp only [encode, fieldA, fieldB, fieldC, fieldReg, fieldLow, ofBool_fieldInv, placed_extract, BitVec.or_assoc,
      ← BitVec.and_or_distrib_left] <;>
    simp [matchOf, placed]

/-- Settles O1: the encoder puts each operand into its own field and the match under the mask, which is what the
decoder reads. -/
theorem decodeOfEncode : Obligations.DecodeOfEncode := by
  intro i
  obtain ⟨mask, hm⟩ := maskOf_opcode i
  exact (decode_eq_ok_iff rfl hm).2 ⟨operandsOf_encode i, encode_and_mask i hm⟩

/-- Settles O2: the bits under the mask are the match, and the encoder gives the others back. -/
theorem encodeOfDecode : Obligations.EncodeOfDecode := by
  intro w i h
  obtain ⟨mask, hm, hi, hw⟩ := decode_ok h
  calc encode i = (w &&& mask) ||| (w &&& ~~~mask) := by rw [encode_of_operandsOf hm hi, hw]
    _ = w := by rw [← BitVec.and_or_distrib_left, BitVec.or_not_self, BitVec.and_allOnes]

end Sys2Proof

namespace Sys2Proof.Machine

open Sys2Proof.Config

/-! ## The words of one command -/

/-- One row of R61 and R66: a mask, a match and the fields of the operands. -/
theorem encodedBy_of_row {op : Nat} {mask : Word48} {command : Word48 → Instr} (hm : maskOf op = some mask)
    (hi : ∀ w, operandsOf op w = some (command w)) : encodedBy mask (matchOf op) command := by
  intro w
  rw [decode_eq_ok_iff (opcode_of_operandsOf (hi w)) hm]
  simp [hi w]

/-- Settles O3: the nine rows. -/
theorem wordSelectsExactlyItsCommand : Obligations.WordSelectsExactlyItsCommand :=
  ⟨encodedBy_of_row (op := 1) rfl fun _ => rfl,
   encodedBy_of_row (op := 2) rfl fun _ => rfl,
   encodedBy_of_row (op := 3) rfl fun _ => rfl,
   encodedBy_of_row (op := 4) rfl fun _ => rfl,
   encodedBy_of_row (op := 5) rfl fun _ => rfl,
   encodedBy_of_row (op := 6) rfl fun _ => rfl,
   encodedBy_of_row (op := 7) rfl fun _ => rfl,
   encodedBy_of_row (op := 8) rfl fun _ => rfl,
   encodedBy_of_row (op := 9) rfl fun _ => rfl⟩

/-! ## Words that select no command -/

/-- REFUSED leaves one more report, with an empty trace, and nothing else. -/
theorem State.refuse_eq_ended (s : State) : s.refuse = s.ended 0 .refused [] none := by
  simp [State.refuse, State.start, State.finish, State.ended, State.hostWait]

/-- A word that selects no command is taken from the port and refused (R64, R65). -/
theorem step_of_no_command {s : State} {w : Word48} {rest : List Word48} (hidle : s.busy = false)
    (hcommands : s.commands = w :: rest) (hnone : ∀ i, decode w ≠ .ok i) :
    step s = .next ({ s with commands := rest }.ended 0 .refused [] none) := by
  rw [step_presented hidle hcommands]
  cases hd : decode w with
  | ok i => exact absurd hd (hnone i)
  | error e => exact congrArg Host.Outcome.next (State.refuse_eq_ended _)

/-- Settles O5: an op without a mask decodes to nothing. -/
theorem reservedOpcodeIsRefused : Obligations.ReservedOpcodeIsRefused := by
  intro s w rest hidle hcommands hop
  have herror : decode w = .error .unassignedOp := decode_unassigned (maskOf_eq_none.2 hop)
  have hnone : ∀ i, decode w ≠ .ok i := by simp [herror]
  exact ⟨hnone, step_of_no_command hidle hcommands hnone⟩

/-- The reserved bits of a format are under its mask and 0 in its match, so a word with one set is no command. -/
theorem decode_ne_ok_of_reserved {w mask reserved : Word48} {op : Nat} (hop : opOf w = op)
    (hm : maskOf op = some mask) (hcovered : mask &&& reserved = reserved) (hclear : matchOf op &&& reserved = 0)
    (hw : w &&& reserved ≠ 0) (i : Instr) : decode w ≠ .ok i := by
  intro h
  obtain ⟨mask', hm', -, hmatch⟩ := decode_ok h
  rw [hop] at hm' hmatch
  obtain rfl : mask' = mask := Option.some.inj (hm'.symm.trans hm)
  apply hw
  calc w &&& reserved = w &&& mask' &&& reserved := by rw [BitVec.and_assoc, hcovered]
    _ = 0 := by rw [hmatch, hclear]

/-- Settles O6: the nine formats' reserved bits. -/
theorem reservedBitIsRefused : Obligations.ReservedBitIsRefused := by
  intro s w rest op reserved hidle hcommands hformat hop hset
  have hreserved : ∃ mask, maskOf op = some mask ∧ mask &&& reserved = reserved ∧ matchOf op &&& reserved = 0 := by
    simp only [List.mem_cons, Prod.mk.injEq, List.not_mem_nil, or_false] at hformat
    rcases hformat with ⟨rfl, rfl⟩ | ⟨rfl, rfl⟩ | ⟨rfl, rfl⟩ | ⟨rfl, rfl⟩ | ⟨rfl, rfl⟩ | ⟨rfl, rfl⟩ | ⟨rfl, rfl⟩ |
      ⟨rfl, rfl⟩ | ⟨rfl, rfl⟩ <;> exact ⟨_, rfl, by decide, by decide⟩
  obtain ⟨mask, hm, hcovered, hclear⟩ := hreserved
  exact step_of_no_command hidle hcommands (decode_ne_ok_of_reserved hop hm hcovered hclear hset)

/-- Settles O4: the five words are evaluated; the sixth decodes to no command. -/
theorem workedEncodings : Obligations.WorkedEncodings := by
  have hreserved : decode 0x400000010032#48 = .error .reservedBits := rfl
  exact ⟨⟨rfl, rfl⟩, ⟨rfl, rfl⟩, ⟨rfl, rfl⟩, ⟨rfl, rfl⟩, ⟨rfl, rfl⟩, hreserved,
    fun s rest hidle hcommands => step_of_no_command hidle hcommands (by simp [hreserved])⟩

/-! ## The assembler (R69, R70) -/

theorem toNat_of_fitsByte {n : Nat} (h : fitsByte n = true) : (BitVec.ofNat 8 n).toNat = n := by
  rw [BitVec.toNat_ofNat, Nat.mod_eq_of_lt (of_decide_eq_true h)]

theorem toNat_of_fitsHalf {n : Nat} (h : fitsHalf n = true) : (BitVec.ofNat 16 n).toNat = n := by
  rw [BitVec.toNat_ofNat, Nat.mod_eq_of_lt (of_decide_eq_true h)]

theorem toNat_of_fitsBit {n : Nat} (h : fitsBit n = true) : (decide (n = 1)).toNat = n := by
  have hlt : n < 2 := of_decide_eq_true h
  interval_cases n <;> rfl

theorem toAsm_wellFormed (i : Instr) : i.toAsm.wellFormed = true := by
  cases i with
  | cfg addr freq => exact Laws.Written.cfg addr freq
  | init => exact Laws.Written.init
  | rst => exact Laws.Written.rst
  | setfreq freq => exact Laws.Written.setfreq freq
  | setticks ch on off => exact Laws.Written.setticks ch on off
  | setpct ch duty => exact Laws.Written.setpct ch duty
  | setlvl ch ticks inv => exact Laws.Written.setlvl ch ticks inv
  | rdreg reg => exact Laws.Written.rdreg reg
  | wrreg reg val => exact Laws.Written.wrreg reg val

/-- Settles O8: a written line is well-formed, and its operands are the command's own. -/
theorem assembleOfWritten : Obligations.AssembleOfWritten := by
  intro i
  rw [assembleLine, if_pos (toAsm_wellFormed i)]
  cases i with
  | setlvl ch ticks inv => cases inv <;> simp [Instr.toAsm]
  | _ => simp [Instr.toAsm]

/-- The rows of R70: a line with operands left out, or with a name of its own, and the command it stands for. -/
inductive Pseudo : AsmLine → Instr → Prop
  | cfgDefault : Pseudo ⟨.cfg, []⟩ (.cfg 0x40#8 50#16)
  | cfgAddr (addr : Byte) : Pseudo ⟨.cfg, [addr.toNat]⟩ (.cfg addr 50#16)
  | setlvl (ch : Byte) (ticks : Half) : Pseudo ⟨.setlvl, [ch.toNat, ticks.toNat]⟩ (.setlvl ch ticks false)
  | fullon (ch : Byte) : Pseudo ⟨.fullon, [ch.toNat]⟩ (.setticks ch 4096#16 0#16)
  | fulloff (ch : Byte) : Pseudo ⟨.fulloff, [ch.toNat]⟩ (.setticks ch 0#16 4096#16)

theorem Pseudo.assembles {l : AsmLine} {i : Instr} (h : Pseudo l i) : assembleLine l = some i := by
  cases h <;> simp [assembleLine, AsmLine.wellFormed, Laws.fitsByte_toNat, Laws.fitsHalf_toNat]

/-- Settles O9: the rows of R70, whose operands fit. -/
theorem pseudoInstructionsExpand : Obligations.PseudoInstructionsExpand :=
  ⟨Pseudo.cfgDefault.assembles, fun addr => (Pseudo.cfgAddr addr).assembles,
   fun ch ticks => (Pseudo.setlvl ch ticks).assembles, fun ch => (Pseudo.fullon ch).assembles,
   fun ch => (Pseudo.fulloff ch).assembles⟩

theorem wellFormed_of_assembleLine {l : AsmLine} {i : Instr} (h : assembleLine l = some i) : l.wellFormed = true := by
  by_contra hill
  rw [assembleLine, if_neg hill] at h
  cases h

/-- What assembles is a command written in full, or a row of R70. -/
theorem assembleLine_cases {l : AsmLine} {i : Instr} (h : assembleLine l = some i) : i.toAsm = l ∨ Pseudo l i := by
  have hfits := wellFormed_of_assembleLine h
  obtain ⟨m, operands⟩ := l
  rw [assembleLine, if_pos hfits] at h
  dsimp only at h
  split at h <;> cases h
  -- the five rows of R70
  case h_1.refl => exact .inr .cfgDefault
  case h_2.refl addr =>
    exact .inr (by simpa only [toNat_of_fitsByte (n := addr) hfits] using Pseudo.cfgAddr (BitVec.ofNat 8 addr))
  case h_9.refl ch ticks =>
    obtain ⟨hch, hticks⟩ := Bool.and_eq_true_iff.1 hfits
    exact .inr (by simpa only [toNat_of_fitsByte hch, toNat_of_fitsHalf hticks] using
      Pseudo.setlvl (BitVec.ofNat 8 ch) (BitVec.ofNat 16 ticks))
  case h_13.refl ch =>
    exact .inr (by simpa only [toNat_of_fitsByte (n := ch) hfits] using Pseudo.fullon (BitVec.ofNat 8 ch))
  case h_14.refl ch =>
    exact .inr (by simpa only [toNat_of_fitsByte (n := ch) hfits] using Pseudo.fulloff (BitVec.ofNat 8 ch))
  -- the lines written in full
  all_goals
    simp only [AsmLine.wellFormed, Bool.and_eq_true] at hfits
    exact .inl (by simp only [Instr.toAsm, toNat_of_fitsByte, toNat_of_fitsHalf, toNat_of_fitsBit, hfits])

/-- A line has at most its mnemonic's operands, and each one is below its field's bound. -/
def WithinBounds (l : AsmLine) : Prop :=
  l.operands.length ≤ (operandBounds l.mnemonic).length ∧ ∀ x ∈ l.operands.zip (operandBounds l.mnemonic), x.1 < x.2

theorem toNat_lt_256 (b : Byte) : b.toNat < 256 := b.isLt

theorem toNat_lt_65536 (h : Half) : h.toNat < 65536 := h.isLt

theorem toAsm_withinBounds (i : Instr) : WithinBounds i.toAsm := by
  cases i <;> simp [WithinBounds, Instr.toAsm, operandBounds, toNat_lt_256, toNat_lt_65536, Bool.toNat_le]

theorem Pseudo.withinBounds {l : AsmLine} {i : Instr} (h : Pseudo l i) : WithinBounds l := by
  cases h <;> simp [WithinBounds, operandBounds, toNat_lt_256, toNat_lt_65536]

theorem Pseudo.fewer_operands {l : AsmLine} {i : Instr} (h : Pseudo l i) :
    l.operands.length < i.toAsm.operands.length := by
  cases h <;> simp [Instr.toAsm]

/-- Settles O7: a full line is the command's own, and a row of R70 has fewer operands than its command. -/
theorem assemblerNeverTruncates : Obligations.AssemblerNeverTruncates := by
  intro l i h
  have hbounds : WithinBounds l ∧ (l.operands.length = i.toAsm.operands.length → i.toAsm = l) := by
    rcases assembleLine_cases h with rfl | hpseudo
    · exact ⟨toAsm_withinBounds i, fun _ => rfl⟩
    · exact ⟨hpseudo.withinBounds, fun hlength => absurd hlength hpseudo.fewer_operands.ne⟩
  obtain ⟨⟨hlength, hfit⟩, hfull⟩ := hbounds
  exact ⟨wellFormed_of_assembleLine h, hlength, hfit, hfull⟩

end Sys2Proof.Machine

/-! CFG, RST and INIT (40_lifecycle.md): a running command as what it has issued so far, what its lines add to that, the
rule of SETFREQ that INIT shares (41_frequency.md R108), and how each of the three ends. -/

namespace Sys2Proof.Machine

open Sys2Proof.Config

/-! ## A command that has issued a trace so far -/

/-- A command taken up in `s` that has had `k` answers, has issued this trace and holds no result byte. A line that
writes a register or a latch changes `s`; a line that issues a request changes `k` and the trace. -/
def State.issued (s : State) (k : Nat) (trace : List Record) : State :=
  { s with
    busy := true, index := trace.length, pending := [], trace := trace, result := none,
    answers := s.answers.drop k, draws := s.draws + k }

theorem State.reply_issued (s : State) (k : Nat) (trace : List Record) : (s.issued k trace).reply 0 = s.reply k := by
  simp [State.reply, State.issued]

/-- A delay is recorded and takes no answer. -/
theorem State.record_issued (s : State) (k : Nat) (trace : List Record) (rest : List Action) (r : Request)
    (c : Completion) :
    ((s.issued k trace).setPending rest).record r c = (s.issued k (trace ++ [⟨s.addr, r, c⟩])).setPending rest := by
  simp [State.issued, State.setPending, State.record]

/-- A request to the transport is recorded and takes one answer. -/
theorem State.takeAnswer_record_issued (s : State) (k : Nat) (trace : List Record) (rest : List Action) (r : Request)
    (c : Completion) :
    ((s.issued k trace).setPending rest).takeAnswer.record r c =
      (s.issued (k + 1) (trace ++ [⟨s.addr, r, c⟩])).setPending rest := by
  simp [State.issued, State.setPending, State.takeAnswer, State.record, Nat.add_assoc]

/-! ## What is pending does not matter to the lines that are run -/

theorem State.drive_setPending (s : State) (rest body : List Action) : (s.setPending rest).drive body = s.drive body := by
  cases body <;> rfl

theorem State.drive_of_perform_ok {s t : State} {a : Action} {rest : List Action}
    (h : (s.setPending rest).perform a = .ok (t.setPending rest)) : s.drive (a :: rest) = t.drive rest :=
  (State.drive_cons_ok h).trans (State.drive_setPending t rest rest)

theorem State.drive_of_perform_error {s t : State} {a : Action} {rest : List Action}
    (h : (s.setPending rest).perform a = .error (t.setPending rest)) :
    s.drive (a :: rest) = t.finish .transportFailed :=
  (State.drive_cons_error h).trans rfl

/-- A command that has been taken up has issued nothing. -/
theorem State.drive_start (s : State) (body : List Action) : (s.start body).drive body = (s.issued 0 []).drive body :=
  State.drive_setPending (s.issued 0 []) body body

/-! ## Lines that issue one request and write nothing -/

/-- The record of such a line once it has completed; none for a line that writes a register, a latch or the result. -/
def State.lineRecord (s : State) : Action → Option Record
  | .writeReg reg source => some ⟨s.addr, .write reg (s.sourceByte source), .done⟩
  | .writeBlock start data => some ⟨s.addr, .block start (BitVec.ofNat 8 data.length) data true, .done⟩
  | .delay ms => some ⟨s.addr, .delay ms, .done⟩
  | _ => none

/-- A line that asks the transport for a write. -/
def Action.sends : Action → Bool
  | .writeReg _ _ => true
  | .writeBlock _ _ => true
  | _ => false

theorem State.perform_of_sends {s : State} {a : Action} {r : Record} (h : s.lineRecord a = some r)
    (hsends : a.sends = true) : s.perform a = s.send r.request ∧ r = ⟨s.addr, r.request, .done⟩ := by
  cases a with
  | writeReg reg source => cases h; exact ⟨rfl, rfl⟩
  | writeBlock start data => cases h; exact ⟨rfl, rfl⟩
  | _ => cases hsends

theorem State.perform_of_waits {s : State} {a : Action} {r : Record} (h : s.lineRecord a = some r)
    (hwaits : a.sends = false) : s.perform a = .ok (s.record r.request .done) ∧ r = ⟨s.addr, r.request, .done⟩ := by
  cases a with
  | delay ms => cases h; exact ⟨rfl, rfl⟩
  | writeReg reg source => cases hwaits
  | writeBlock start data => cases hwaits
  | _ => cases h

/-- What a line issues depends on the registers and the latches alone. -/
theorem State.lineRecord_issued (s : State) (k : Nat) (trace : List Record) (rest : List Action) (a : Action) :
    ((s.issued k trace).setPending rest).lineRecord a = s.lineRecord a := by
  cases a with
  | writeReg reg source => cases source <;> rfl
  | _ => rfl

theorem State.drive_line {s : State} {k : Nat} {a : Action} {r : Record} (h : s.lineRecord a = some r)
    (haccepts : a.sends = true → s.accepts k = true) (trace : List Record) (rest : List Action) :
    (s.issued k trace).drive (a :: rest) =
      (s.issued (k + if a.sends then 1 else 0) (trace ++ [r])).drive rest := by
  have hline := (s.lineRecord_issued k trace rest a).trans h
  apply State.drive_of_perform_ok
  cases hsends : a.sends with
  | true =>
    obtain ⟨b, hb⟩ := State.accepts_eq_true.1 (haccepts hsends)
    obtain ⟨hperform, hr⟩ := State.perform_of_sends hline hsends
    have hreply : ((s.issued k trace).setPending rest).reply 0 = .success b := (s.reply_issued k trace).trans hb
    rw [hperform, State.send_success hreply, State.takeAnswer_record_issued, hr]
    rfl
  | false =>
    obtain ⟨hperform, hr⟩ := State.perform_of_waits hline hsends
    rw [hperform, State.record_issued, hr]
    rfl

theorem State.drive_line_failure {s : State} {k : Nat} {a : Action} {r : Record} (h : s.lineRecord a = some r)
    (hsends : a.sends = true) (hfailure : s.reply k = .failure) (trace : List Record) (rest : List Action) :
    (s.issued k trace).drive (a :: rest) = (s.issued (k + 1) (trace ++ [r.fail])).finish .transportFailed := by
  obtain ⟨hperform, hr⟩ := State.perform_of_sends ((s.lineRecord_issued k trace rest a).trans h) hsends
  have hreply : ((s.issued k trace).setPending rest).reply 0 = .failure := (s.reply_issued k trace).trans hfailure
  apply State.drive_of_perform_error
  rw [hperform, State.send_failure hreply, State.takeAnswer_record_issued, hr]
  rfl

theorem countP_sends_cons (a : Action) (lines : List Action) :
    (a :: lines).countP Action.sends = (if a.sends then 1 else 0) + lines.countP Action.sends := by
  rw [List.countP_cons, Nat.add_comm]

/-- Lines whose requests are all accepted issue their records, one answer for each that asks the transport. -/
theorem State.drive_lines {s : State} {k : Nat} {lines : List Action} {records : List Record}
    (hlines : lines.map s.lineRecord = records.map some)
    (haccepts : ∀ j, j < lines.countP Action.sends → s.accepts (k + j) = true) (trace : List Record)
    (rest : List Action) :
    (s.issued k trace).drive (lines ++ rest) =
      (s.issued (k + lines.countP Action.sends) (trace ++ records)).drive rest := by
  induction lines generalizing k trace records with
  | nil =>
    obtain rfl : records = [] := by simpa using hlines.symm
    simp
  | cons a lines ih =>
    obtain _ | ⟨r, records⟩ := records
    · simp at hlines
    obtain ⟨hr, hlines⟩ := List.cons_eq_cons.1 hlines
    rw [countP_sends_cons] at haccepts ⊢
    have hfirst (hsends : a.sends = true) : s.accepts k = true := haccepts 0 (by simp [hsends])
    rw [List.cons_append, State.drive_line hr hfirst,
      ih hlines fun j hj => by rw [Nat.add_assoc]; exact haccepts _ (by omega), Nat.add_assoc, List.append_assoc]
    rfl

theorem failedAt_append (trace later : List Record) (n : Nat) :
    failedAt (trace ++ later) (trace.length + n) = trace ++ failedAt later n := by
  simp [failedAt, List.take_append, List.drop_append, List.take_of_length_le, List.drop_of_length_le]

/-- When the transport fails request `j`, which line `n` makes, the command ends with the records up to it. -/
theorem State.drive_lines_failure {s : State} {k j n : Nat} {lines : List Action} {records : List Record}
    (hlines : lines.map s.lineRecord = records.map some) (hsends : lines[n]?.any Action.sends = true)
    (hcount : (lines.take n).countP Action.sends = j) (haccepts : ∀ i, i < j → s.accepts (k + i) = true)
    (hfailure : s.reply (k + j) = .failure) (trace : List Record) :
    (s.issued k trace).drive lines =
      (s.issued (k + j + 1) (trace ++ failedAt records n)).finish .transportFailed := by
  subst hcount
  induction lines generalizing k trace records n with
  | nil => simp at hsends
  | cons a lines ih =>
    obtain _ | ⟨r, records⟩ := records
    · simp at hlines
    obtain ⟨hr, hlines⟩ := List.cons_eq_cons.1 hlines
    cases n with
    | zero => exact State.drive_line_failure hr (by simpa using hsends) hfailure trace lines
    | succ n =>
      rw [List.take_succ_cons, countP_sends_cons] at haccepts hfailure ⊢
      have hfirst (hsends : a.sends = true) : s.accepts k = true := haccepts 0 (by simp [hsends])
      rw [State.drive_line hr hfirst,
        ih hlines (by simpa using hsends) _ (fun i hi => by rw [Nat.add_assoc]; exact haccepts _ (by omega))
          (by rwa [Nat.add_assoc]), Nat.add_assoc k, List.append_assoc]
      rfl

/-! ## How a command ends -/

/-- With its answers given, a command whose lines end with this status and trace answers `ended`. `t` is `s` with the
registers and latches the command has written. -/
theorem State.run_ended {s t : State} {body : List Action} {k : Nat} {trace : List Record} {status : Status}
    (hend : (s.issued 0 []).drive body = (t.issued k trace).finish status) (hdraws : t.draws = s.draws)
    (hsilent : t.silentAfter = s.silentAfter) (hanswers : s.answersAtLeast k = true) :
    s.run body = .next (t.ended k status trace none) := by
  have hk : ((t.issued k trace).finish status).draws - s.draws = k := by simp [State.issued, hdraws]
  rw [State.run, State.drive_start, hend,
    State.answered_next (t := (t.issued k trace).finish status) (by rwa [hk]) hsilent, hk]
  simp [State.ended, State.finish, State.issued, State.hostWait, hsilent]

/-! ## CFG -/

/-- Both lines of CFG write a register and issue nothing, so it ends `ok` with no answer given (R80). -/
theorem exec_cfg (s : State) (addr : Byte) (freq : Half) :
    exec (.cfg addr freq) s = .next { s.ended 0 .ok [] none with addr := addr, freq := freq } :=
  State.run_ended (t := (s.setAddr addr).setFreq freq) rfl rfl rfl
    (by cases h : s.silentAfter <;> simp [State.answersAtLeast, h])

/-- Settles O16: the row of format C, and CFG's own rule. -/
theorem cfgStoresVerbatim : Obligations.CfgStoresVerbatim :=
  ⟨encodedBy_of_row (op := 1) rfl fun _ => rfl, exec_cfg⟩

/-- Settles O15: the operands are power-on's own values. -/
theorem powerOnEqualsDefaultCfg : Obligations.PowerOnEqualsDefaultCfg :=
  ⟨exec_cfg State.reset 0x40#8 50#16, fun s => exec_cfg s 0x40#8 50#16⟩

/-! ## RST, and phase 1 of INIT -/

theorem State.drive_resetBody {s : State} (h : s.accepts 0 = true) (rest : List Action) :
    (s.issued 0 []).drive (resetBody ++ rest) = (s.issued 1 (resetTrace s.addr)).drive rest :=
  State.drive_lines (lines := resetBody) (records := resetTrace s.addr) rfl
    (fun j hj => by obtain rfl : j = 0 := Nat.lt_one_iff.1 hj; exact h) [] rest

/-- A failed reset write ends the command before the delay (R82, R83). -/
theorem State.drive_resetBody_failure {s : State} (h : s.reply 0 = .failure) (rest : List Action) :
    (s.issued 0 []).drive (resetBody ++ rest) =
      (s.issued 1 [(wr s.addr 0x00#8 0x80#8).fail]).finish .transportFailed :=
  State.drive_line_failure (r := wr s.addr 0x00#8 0x80#8) rfl rfl h [] _

/-- Settles O17: the reset phase, with nothing behind it. -/
theorem rstFollowsItsRule : Obligations.RstFollowsItsRule := by
  refine ⟨encodedBy_of_row (op := 3) rfl fun _ => rfl, fun s hanswers => ⟨fun hsuccess => ?_, fun hfailure => ?_⟩⟩
  · exact State.run_ended (State.drive_resetBody hsuccess []) rfl rfl hanswers
  · exact State.run_ended (State.drive_resetBody_failure hfailure []) rfl rfl hanswers

/-! ## The rule of SETFREQ, and phase 2 of INIT -/

/-- The lines of R108 behind the read of MODE1. -/
def reconfigureWrites : List Action :=
  [.writeReg mode1 .sleepMode, .writeReg prescale .presc, .writeReg mode1 .oldMode, .delay prescaleSettleMs,
    .writeReg mode1 .resumeMode]

/-- Steps 1 and 2 of R108 on the frequency `f`, before any transaction (R109). -/
def State.clamped (s : State) (f : Half) : State :=
  (s.setFreq (clampFreq f)).setPresc (prescaleByte s.params (clampFreq f).toNat)

/-- The trace of R108 with the PRESCALE byte that the latch holds and `m` read from MODE1. -/
def State.reconfigureRecords (s : State) (m : Byte) : List Record :=
  reconfigureTrace s.addr s.presc m (resumeMode s.params m)

/-- Steps 1 and 2 take no answer and issue nothing, for an operand and for the stored FREQ alike. -/
theorem State.drive_setfreqBody (s : State) (k : Nat) (trace : List Record) (operand : Option Half) :
    (s.issued k trace).drive (setfreqBody operand) =
      ((s.clamped (operand.getD s.freq)).issued k trace).drive (.readMode :: reconfigureWrites) := rfl

theorem State.drive_readMode {s : State} {k : Nat} {m : Byte} (h : s.reply k = .success m) (trace : List Record)
    (rest : List Action) :
    (s.issued k trace).drive (.readMode :: rest) =
      ((s.setOldMode m).issued (k + 1) (trace ++ [rd s.addr 0x00#8 m])).drive rest := by
  have hreply : ((s.issued k trace).setPending rest).reply 0 = .success m := (s.reply_issued k trace).trans h
  apply State.drive_of_perform_ok
  simp only [State.perform, State.fetchByte_success hreply, State.takeAnswer_record_issued]
  rfl

/-- The record of a failed read names no byte, so it is that of any byte `m`. -/
theorem State.drive_readMode_failure {s : State} {k : Nat} (h : s.reply k = .failure) (m : Byte) (trace : List Record)
    (rest : List Action) :
    (s.issued k trace).drive (.readMode :: rest) =
      (s.issued (k + 1) (trace ++ [(rd s.addr 0x00#8 m).fail])).finish .transportFailed := by
  have hreply : ((s.issued k trace).setPending rest).reply 0 = .failure := (s.reply_issued k trace).trans h
  apply State.drive_of_perform_error
  simp only [State.perform, State.fetchByte_failure hreply, State.takeAnswer_record_issued]
  rfl

/-- Behind the read, the request that fails as number `j` is line `j`, or line 4 when it is behind the delay. -/
theorem reconfigureWrites_request {j : Nat} (hj : j < 4) :
    reconfigureWrites[if j < 3 then j else 4]?.any Action.sends = true ∧
      (reconfigureWrites.take (if j < 3 then j else 4)).countP Action.sends = j := by
  interval_cases j <;> decide

/-- R108 behind step 2, every transaction accepted. -/
theorem State.drive_reconfigure {s : State} {k : Nat} {m : Byte} (hread : s.reply k = .success m)
    (haccepts : ∀ j, j < 4 → s.accepts (k + 1 + j) = true) (trace : List Record) :
    (s.issued k trace).drive (.readMode :: reconfigureWrites) =
      ((s.setOldMode m).issued (k + 5) (trace ++ s.reconfigureRecords m)).finish .ok := by
  rw [State.drive_readMode hread, ← List.append_nil reconfigureWrites,
    State.drive_lines (s := s.setOldMode m) (lines := reconfigureWrites) (records := (s.reconfigureRecords m).tail)
      rfl haccepts, List.append_assoc]
  rfl

/-- R108 behind step 2, its transaction `j` failing: the trace ends there (R109). -/
theorem State.drive_reconfigure_failure {s : State} {k j : Nat} {m : Byte} (hj : j < 5)
    (hread : 1 ≤ j → s.reply k = .success m) (haccepts : ∀ i, i < j → s.accepts (k + i) = true)
    (hfailure : s.reply (k + j) = .failure) (trace : List Record) :
    (s.issued k trace).drive (.readMode :: reconfigureWrites) =
      ((s.setOldMode (if j = 0 then s.oldMode else m)).issued (k + j + 1)
        (trace ++ failedAt (s.reconfigureRecords m) (if j < 4 then j else 5))).finish .transportFailed := by
  cases j with
  | zero => exact State.drive_readMode_failure hfailure m trace _
  | succ j =>
    obtain ⟨hsends, hcount⟩ := reconfigureWrites_request (j := j) (by omega)
    have hlater (i : Nat) (hi : i < j) : (s.setOldMode m).accepts (k + 1 + i) = true := by
      rw [Nat.add_assoc, Nat.add_comm 1]
      exact haccepts (i + 1) (by omega)
    have hfails : (s.setOldMode m).reply (k + 1 + j) = .failure := by
      rw [Nat.add_assoc, Nat.add_comm 1]
      exact hfailure
    have hposition : (if j + 1 < 4 then j + 1 else 5) = (if j < 3 then j else 4) + 1 := by split_ifs <;> omega
    rw [State.drive_readMode (hread (by omega)),
      State.drive_lines_failure (records := (s.reconfigureRecords m).tail) rfl hsends hcount hlater hfails,
      hposition, Nat.add_assoc k, Nat.add_comm 1, List.append_assoc]
    rfl

/-! ## INIT -/

/-- After an accepted reset write INIT comes to the rule of SETFREQ on the stored FREQ. -/
theorem State.drive_initBody {s : State} (h : s.accepts 0 = true) :
    (s.issued 0 []).drive (resetBody ++ setfreqBody none) =
      ((s.clamped s.freq).issued 1 (resetTrace s.addr)).drive (.readMode :: reconfigureWrites) :=
  (State.drive_resetBody h _).trans (State.drive_setfreqBody s 1 _ none)

theorem exec_init {s : State} {m : Byte} (hanswers : s.answersAtLeast 6 = true)
    (haccepts : ∀ j, j < 6 → s.accepts j = true) (hread : s.reply 1 = .success m) :
    exec .init s = .next (((s.clamped s.freq).setOldMode m).ended 6 .ok
      (resetTrace s.addr ++ (s.clamped s.freq).reconfigureRecords m) none) := by
  have hlater (j : Nat) (hj : j < 4) : (s.clamped s.freq).accepts (1 + 1 + j) = true := haccepts _ (by omega)
  exact State.run_ended ((State.drive_initBody (haccepts 0 (by decide))).trans
    (State.drive_reconfigure (s := s.clamped s.freq) hread hlater _)) rfl rfl hanswers

theorem exec_init_failure_reset {s : State} (hanswers : s.answersAtLeast 1 = true) (hfailure : s.reply 0 = .failure) :
    exec .init s = .next (s.ended 1 .transportFailed [(wr s.addr 0x00#8 0x80#8).fail] none) :=
  State.run_ended (State.drive_resetBody_failure hfailure _) rfl rfl hanswers

/-- Request `j` of phase 2 fails, which is request `j + 1` of INIT. -/
theorem exec_init_failure {s : State} {m : Byte} {j : Nat} (hj : j < 5) (hanswers : s.answersAtLeast (1 + j + 1) = true)
    (haccepts : ∀ i, i < 1 + j → s.accepts i = true) (hfailure : s.reply (1 + j) = .failure)
    (hread : 1 ≤ j → s.reply 1 = .success m) :
    exec .init s = .next
      (((s.clamped s.freq).setOldMode (if j = 0 then s.oldMode else m)).ended (1 + j + 1) .transportFailed
        (resetTrace s.addr ++ failedAt ((s.clamped s.freq).reconfigureRecords m) (if j < 4 then j else 5)) none) := by
  have hlater (i : Nat) (hi : i < j) : (s.clamped s.freq).accepts (1 + i) = true := haccepts _ (by omega)
  exact State.run_ended ((State.drive_initBody (haccepts 0 (by omega))).trans
    (State.drive_reconfigure_failure (s := s.clamped s.freq) hj hread hlater hfailure _)) rfl rfl hanswers

/-- Settles O18: the reset phase, then the rule of SETFREQ behind its trace of two records. -/
theorem initFollowsItsRule : Obligations.InitFollowsItsRule := by
  refine ⟨encodedBy_of_row (op := 2) rfl fun _ => rfl, fun s m => ⟨exec_init, exec_init_failure_reset, ?_⟩⟩
  intro k hmin hmax hanswers haccepts hfailure hread
  obtain ⟨j, rfl⟩ : ∃ j, k = 1 + j := ⟨k - 1, by omega⟩
  have hposition : (if 1 + j < 5 then 1 + j + 1 else 7) = (resetTrace s.addr).length + if j < 4 then j else 5 := by
    simp only [resetTrace, List.length_cons, List.length_nil]
    split_ifs <;> omega
  have hzero : (1 + j = 1) = (j = 0) := by simp
  rw [hposition, failedAt_append]
  simp only [hzero]
  exact exec_init_failure (by omega) hanswers haccepts hfailure fun hj => hread (by omega)

end Sys2Proof.Machine

/-! The prescaler (41_frequency.md): the clamp, the fixed-point datapath as one division, the frequencies at which its
value falls, its byte, the mode values, and SETFREQ. -/

namespace Sys2Proof.Machine

open Sys2Proof.Config

/-! ## The frequency clamp (R100) -/

/-- Settles O19: the clamp of the operand's number, below, above and inside the range. -/
theorem frequencyClamp : Obligations.FrequencyClamp := by
  intro f
  have hclamp : (clampFreq f).toNat = min (max f.toNat 24) 1526 := clampFreq_toNat f
  refine ⟨hclamp, fun hlow => ?_, fun hhigh => ?_, fun hmin hmax => ?_⟩
  · exact BitVec.eq_of_toNat_eq (hclamp.trans (by rw [max_eq_right hlow.le]; rfl))
  · exact BitVec.eq_of_toNat_eq (hclamp.trans (by rw [max_eq_left (by omega), min_eq_right hhigh.le]; rfl))
  · exact BitVec.eq_of_toNat_eq (hclamp.trans (by rw [max_eq_left hmin, min_eq_left hmax]))

/-! ## The fixed-point quotient (R101, R102) -/

theorem scaledOsc_eq : scaledOsc = 610351 := rfl

/-- The truncation of K does not show in `q`: the two floor divisions are one. -/
theorem hundredths_eq_div (fc : Nat) : hundredths fc = 2500000000 / (4096 * fc) :=
  Nat.div_div_eq_div_mul 2500000000 4096 fc

theorem hundredths_antitone {a b : Nat} (ha : 0 < a) (hab : a ≤ b) : hundredths b ≤ hundredths a :=
  Nat.div_le_div_left hab ha

theorem hundredths_le {fc : Nat} (hmin : 24 ≤ fc) : hundredths fc ≤ 25431 :=
  hundredths_antitone (by decide) hmin

theorem le_hundredths {fc : Nat} (hmin : 24 ≤ fc) (hmax : fc ≤ 1526) : 399 ≤ hundredths fc :=
  hundredths_antitone (b := 1526) (by omega) hmax

/-! ## The wide value as one division (R103, R104) -/

/-- The source's order of operations is one division by 90, because 9 * (100 * n - 50) is a multiple of 10, so no
truncation on the way shows in the result. -/
theorem prescaleWide_add_one_eq_div {fc : Nat} (hmin : 24 ≤ fc) (hmax : fc ≤ 1526) :
    prescaleWide fc + 1 = (hundredths fc + 45) / 90 := by
  have hq := le_hundredths hmin hmax
  simp only [prescaleWide]
  omega

/-- Settles O21: the quotient `q` is itself a division, so the two are one, and both sides are cut by 5. -/
theorem prescalerRoundsExactly : Obligations.PrescalerRoundsExactly := by
  intro fc hmin hmax
  have hpos : 0 < 4096 * fc := by omega
  calc prescaleWide fc + 1
      = (2500000000 / (4096 * fc) + 45) / 90 := by rw [prescaleWide_add_one_eq_div hmin hmax, hundredths_eq_div]
    _ = (2500000000 + 45 * (4096 * fc)) / (4096 * fc * 90) := by
      rw [← Nat.add_mul_div_right _ _ hpos, Nat.div_div_eq_div_mul]
    _ = (5 * (2 * 250000000 + 36864 * fc)) / (5 * (2 * (36864 * fc))) := by congr 1 <;> ring
    _ = (2 * 250000000 + 36864 * fc) / (2 * (36864 * fc)) := Nat.mul_div_mul_left _ _ (by decide)

/-! ## The frequencies at which the wide value falls (R110) -/

/-- The first frequency whose wide value is at most `v`. -/
def firstFreq (v : Nat) : Nat := 610351 / (90 * v + 135) + 1

/-- The wide value and `firstFreq` are an order-reversing Galois connection; all of R110 is read off it. -/
theorem prescaleWide_le_iff {fc : Nat} (hmin : 24 ≤ fc) (hmax : fc ≤ 1526) (v : Nat) :
    prescaleWide fc ≤ v ↔ firstFreq v ≤ fc := by
  have hdiv := prescaleWide_add_one_eq_div hmin hmax
  have hfc : 0 < fc := by omega
  calc prescaleWide fc ≤ v ↔ 610351 / fc < 90 * v + 135 := by rw [hundredths, scaledOsc_eq] at hdiv; omega
    _ ↔ 610351 / (90 * v + 135) < fc := by
      rw [Nat.div_lt_iff_lt_mul hfc, Nat.div_lt_iff_lt_mul (by omega), Nat.mul_comm]

theorem prescaleWide_antitone {a b : Nat} (ha : 24 ≤ a) (hab : a ≤ b) (hb : b ≤ 1526) :
    prescaleWide b ≤ prescaleWide a := by
  rw [prescaleWide_le_iff (ha.trans hab) hb]
  exact ((prescaleWide_le_iff ha (hab.trans hb) _).1 le_rfl).trans hab

theorem prescaleWide_le {fc : Nat} (hmin : 24 ≤ fc) (hmax : fc ≤ 1526) : prescaleWide fc ≤ 282 :=
  prescaleWide_antitone le_rfl hmin hmax

theorem le_prescaleWide {fc : Nat} (hmin : 24 ≤ fc) (hmax : fc ≤ 1526) : 3 ≤ prescaleWide fc :=
  prescaleWide_antitone (b := 1526) hmin hmax le_rfl

/-- Settles O20: `q` lies between its values at 1526 and at 24, and the bounds of R103 follow from those. -/
theorem prescalerDatapath : Obligations.PrescalerDatapath := by
  refine ⟨rfl, rfl, by decide, by decide, rfl, rfl, rfl, fun fc hmin hmax => ?_⟩
  have hlow : 399 ≤ 610351 / fc := le_hundredths hmin hmax
  have hhigh : 610351 / fc ≤ 25431 := hundredths_le hmin
  exact ⟨rfl, hundredths_eq_div fc, hlow, hhigh, by omega, by omega, by omega, rfl, le_prescaleWide hmin hmax,
    prescaleWide_le hmin hmax⟩

theorem firstFreq_in_range {v : Nat} (hmin : 3 ≤ v) (hmax : v ≤ 282) : 24 ≤ firstFreq v ∧ firstFreq v ≤ 1526 := by
  have hlow : 610351 / (90 * 282 + 135) ≤ 610351 / (90 * v + 135) := Nat.div_le_div_left (by omega) (by omega)
  have hhigh : 610351 / (90 * v + 135) ≤ 610351 / (90 * 3 + 135) := Nat.div_le_div_left (by omega) (by omega)
  unfold firstFreq
  omega

/-- A value is reached exactly if it is reached at the first frequency that does not lie above it. -/
theorem image_prescaleWide :
    (Finset.Icc 24 1526).image prescaleWide =
      (Finset.Icc 3 282).filter fun v => prescaleWide (firstFreq v) = v := by
  ext v
  simp only [Finset.mem_image, Finset.mem_filter, Finset.mem_Icc]
  constructor
  · rintro ⟨fc, ⟨hmin, hmax⟩, rfl⟩
    have hlow := le_prescaleWide hmin hmax
    have hhigh := prescaleWide_le hmin hmax
    obtain ⟨hfirst, hlast⟩ := firstFreq_in_range hlow hhigh
    refine ⟨⟨hlow, hhigh⟩, le_antisymm ((prescaleWide_le_iff hfirst hlast _).2 le_rfl) ?_⟩
    exact prescaleWide_antitone hfirst ((prescaleWide_le_iff hmin hmax _).1 le_rfl) hmax
  · rintro ⟨⟨hmin, hmax⟩, hv⟩
    exact ⟨firstFreq v, firstFreq_in_range hmin hmax, hv⟩

/-- The count itself, over the 280 candidate values, not over the 1503 frequencies. -/
theorem card_reached_values : ((Finset.Icc 3 282).filter fun v => prescaleWide (firstFreq v) = v).card = 138 := by
  rfl

/-- Settles O23: the runs from the antitone value, the count over the values, the last run from its first frequency. -/
theorem prescalerProperties : Obligations.PrescalerProperties := by
  refine ⟨fun a b ha hab hb => prescaleWide_antitone ha hab hb, fun a b c ha hab hbc hc heq => ?_,
    image_prescaleWide ▸ card_reached_values, rfl, fun fc hmin hmax => ?_⟩
  · exact le_antisymm (prescaleWide_antitone ha hab (hbc.trans hc))
      (heq.le.trans (prescaleWide_antitone (ha.trans hab) hbc hc))
  · have hthree : prescaleWide fc ≤ 3 ↔ 1508 ≤ fc := prescaleWide_le_iff hmin hmax 3
    rw [← hthree]
    exact ⟨le_of_eq, fun h => le_antisymm h (le_prescaleWide hmin hmax)⟩

/-! ## The PRESCALE byte (R105) -/

/-- A value that fits a byte is the byte under either narrowing. -/
theorem prescaleByte_toNat_of_le {p : Params} {fc : Nat} (h : prescaleValue p.prescaleFn fc ≤ 255) :
    (prescaleByte p fc).toNat = prescaleValue p.prescaleFn fc := by
  cases hn : p.narrow with
  | wrap => rw [prescaleByte_toNat_of_wrap hn, Nat.mod_eq_of_lt (Nat.lt_succ_of_le h)]
  | saturate => rw [prescaleByte_toNat_of_saturate hn, min_eq_left h]

theorem prescaleValue_of_prescaleWide {fn : PrescaleFn} (h : fn = .prescaleWide) (fc : Nat) :
    prescaleValue fn fc = prescaleWide fc := by
  rw [h, prescaleValue]

theorem prescaleWide_le_250 {fc : Nat} (hmin : 27 ≤ fc) (hmax : fc ≤ 1526) : prescaleWide fc ≤ 250 :=
  prescaleWide_antitone (a := 27) (by decide) hmin hmax

/-- Settles O22: both narrowings, the three frequencies whose value does not fit, and the others. -/
theorem prescaleByteNarrowing : Obligations.PrescaleByteNarrowing := by
  refine ⟨fun p fc => ⟨fun hw => prescaleByte_toNat_of_wrap hw fc, fun hs => prescaleByte_toNat_of_saturate hs fc,
    fun hfn => prescaleValue_of_prescaleWide hfn fc⟩, fun p hfn => ⟨rfl, rfl, rfl, fun hw => ?_, fun hs => ?_, ?_⟩⟩
  · simp only [prescaleByte, hw, hfn]
    decide
  · simp only [prescaleByte, hs, hfn]
    decide
  · intro fc hmin hmax
    have hvalue := prescaleValue_of_prescaleWide hfn fc
    have hle := prescaleWide_le_250 hmin hmax
    refine ⟨le_prescaleWide (by omega) hmax, hle, ?_⟩
    rw [prescaleByte_toNat_of_le (by omega), hvalue]

/-! ## The mode values (R106, R107) -/

theorem getLsbD_modeSleep : ∀ i < 8, modeSleep.getLsbD i = decide (i = 4) := by decide

theorem getLsbD_modeAiRestart : ∀ i < 8, modeAiRestart.getLsbD i = (decide (i = 5) || decide (i = 7)) := by decide

/-- Settles O25: each bit of an OR with the constant's bits, and the constant itself. -/
theorem modeValues : Obligations.ModeValues := by
  refine ⟨fun m i hi => ?_, fun p m i hp hi => ?_, fun p m hp => ?_⟩
  · rw [sleepMode, BitVec.getLsbD_or, getLsbD_modeSleep i hi, Bool.or_comm]
  · rw [resumeMode, hp]
    simp only [BitVec.getLsbD_or, getLsbD_modeAiRestart i hi, Bool.or_comm]
  · rw [resumeMode, hp]
    rfl

/-! ## SETFREQ (R108, R109) -/

theorem exec_setfreq {s : State} {m : Byte} (f : Half) (hanswers : s.answersAtLeast 5 = true)
    (haccepts : ∀ j, j < 5 → s.accepts j = true) (hread : s.reply 0 = .success m) :
    exec (.setfreq f) s = .next
      (((s.clamped f).setOldMode m).ended 5 .ok ((s.clamped f).reconfigureRecords m) none) := by
  have hlater (j : Nat) (hj : j < 4) : (s.clamped f).accepts (0 + 1 + j) = true := haccepts _ (by omega)
  exact State.run_ended ((State.drive_setfreqBody s 0 [] (some f)).trans
    (State.drive_reconfigure (s := s.clamped f) hread hlater [])) rfl rfl hanswers

theorem exec_setfreq_failure {s : State} {m : Byte} {k : Nat} (f : Half) (hk : k < 5)
    (hanswers : s.answersAtLeast (k + 1) = true) (haccepts : ∀ j, j < k → s.accepts j = true)
    (hfailure : s.reply k = .failure) (hread : 1 ≤ k → s.reply 0 = .success m) :
    exec (.setfreq f) s = .next
      (((s.clamped f).setOldMode (if k = 0 then s.oldMode else m)).ended (k + 1) .transportFailed
        (failedAt ((s.clamped f).reconfigureRecords m) (if k < 4 then k else 5)) none) := by
  have hlater (j : Nat) (hj : j < k) : (s.clamped f).accepts (0 + j) = true := by
    rw [Nat.zero_add]
    exact haccepts j hj
  have hfails : (s.clamped f).reply (0 + k) = .failure := by
    rw [Nat.zero_add]
    exact hfailure
  have hend := State.drive_reconfigure_failure (s := s.clamped f) hk hread hlater hfails []
  rw [Nat.zero_add] at hend
  exact State.run_ended ((State.drive_setfreqBody s 0 [] (some f)).trans hend) rfl rfl hanswers

/-- Settles O26: the row of format F, and the rule that INIT shares, with no trace before it. -/
theorem setfreqFollowsItsRule : Obligations.SetfreqFollowsItsRule :=
  ⟨encodedBy_of_row (op := 4) rfl fun _ => rfl, fun _ freq _ => ⟨exec_setfreq freq, fun _ hk =>
    exec_setfreq_failure freq (Nat.lt_succ_of_le hk)⟩⟩

end Sys2Proof.Machine

/-! The duty encoder (42_duty.md): the channel registers, the bytes of a tick pair, the two duty mappings, and the one
block write that SETTICKS, SETPCT and SETLVL share. -/

namespace Sys2Proof.Machine

open Sys2Proof.Config

/-! ## The channel registers (R131, R132) -/

theorem channelBase_toNat (ch : Byte) : (channelBase ch).toNat = (6 + 4 * ch.toNat) % 256 :=
  BitVec.toNat_ofNat _ 8

theorem channelBase_toNat_of_le {ch : Byte} (h : ch.toNat ≤ 15) : (channelBase ch).toNat = 6 + 4 * ch.toNat := by
  rw [channelBase_toNat, Nat.mod_eq_of_lt (by omega)]

/-- Settles O28: address `a` of the range is register `(a - 6) % 4` of channel `(a - 6) / 4`. -/
theorem channelRegisters : Obligations.ChannelRegisters := by
  refine ⟨fun ch => ⟨channelBase_toNat ch, channelBase_mod_four ch⟩, fun ch hch => ?_, fun a => ⟨fun ha => ?_, ?_⟩⟩
  · have hbase := channelBase_toNat_of_le hch
    omega
  · have hch : (BitVec.ofNat 8 ((a - 6) / 4)).toNat = (a - 6) / 4 := by
      rw [BitVec.toNat_ofNat, Nat.mod_eq_of_lt (by omega)]
    have hle : (BitVec.ofNat 8 ((a - 6) / 4)).toNat ≤ 15 := by omega
    have hbase := channelBase_toNat_of_le hle
    exact ⟨BitVec.ofNat 8 ((a - 6) / 4), (a - 6) % 4, hle, by omega, by omega⟩
  · rintro ⟨ch, i, hch, hi, rfl⟩
    have hbase := channelBase_toNat_of_le hch
    omega

/-! ## The bytes of a tick pair (R130, R133, R134) -/

theorem lo_toNat (v : Half) : (lo v).toNat = v.toNat % 256 := by
  rw [lo, BitVec.extractLsb'_toNat, Nat.shiftRight_zero]

theorem hi_toNat (v : Half) : (hi v).toNat = v.toNat / 256 := by
  have hlt : v.toNat / 256 < 256 := by omega
  rw [hi, BitVec.extractLsb'_toNat, Nat.shiftRight_eq_div_pow, Nat.mod_eq_of_lt hlt]

/-- Settles O29: the halves of the number, and the four bytes by their places in the block. -/
theorem pairBytesLittleEndian : Obligations.PairBytesLittleEndian :=
  ⟨fun v => ⟨lo_toNat v, hi_toNat v⟩, fun _ _ _ _ _ => rfl⟩

/-- The sentinel's number lies above every tick. -/
theorem ne_sentinel_of_le {v : Half} (h : v.toNat ≤ 4095) : v ≠ sentinel := by
  rintro rfl
  exact absurd h (by decide)

/-- Settles O30: the bytes are evaluated, and each sentinel pair holds 4096 in one slot. -/
theorem sentinelBytes : Obligations.SentinelBytes :=
  ⟨rfl, rfl, rfl, rfl, fun _ _ hon hoff =>
    ⟨fun h => ne_sentinel_of_le hon (congrArg Prod.fst h), fun h => ne_sentinel_of_le hoff (congrArg Prod.snd h)⟩⟩

/-! ## The duty mapping of SETPCT (R136) -/

theorem le_scaledDuty {d : Byte} (h : d ≠ 0#8) : 16 ≤ 4096 * d.toNat / 255 := by
  have hpos : d.toNat ≠ 0 := fun hzero => h (BitVec.eq_of_toNat_eq hzero)
  omega

theorem percentToOff_toNat {d : Byte} (h : d ≠ 0#8) : (percentToOff d).toNat = 4096 * d.toNat / 255 - 1 := by
  have hfits : 4096 * d.toNat / 255 - 1 < 2 ^ 16 := by omega
  rw [percentToOff, if_neg h]
  exact Nat.mod_eq_of_lt hfits

/-- SETPCT never writes a sentinel (R137). -/
theorem percentToOff_le (d : Byte) : (percentToOff d).toNat ≤ 4095 := by
  by_cases h : d = 0#8
  · simp [percentToOff, h]
  · rw [percentToOff_toNat h]
    omega

/-- Settles O31: the general value, and the rule's own ones. -/
theorem percentMapping : Obligations.PercentMapping :=
  ⟨rfl, fun d h => ⟨le_scaledDuty h, percentToOff_toNat h, percentToOff_le d⟩, rfl, rfl, rfl, rfl⟩

/-! ## The level mapping of SETLVL (R138, R139) -/

/-- The clamp makes every level from 4095 upward the full one. -/
theorem levelEncode_of_full {ticks : Half} (h : 4095 ≤ ticks.toNat) (inv : Bool) :
    levelEncode ticks inv = if inv then fullOff else fullOn := by
  have hclamp : min ticks.toNat tickMax = tickMax := min_eq_right h
  simp only [levelEncode, hclamp]
  cases inv <;> rfl

theorem levelEncode_of_zero {ticks : Half} (h : ticks.toNat = 0) (inv : Bool) :
    levelEncode ticks inv = if inv then fullOn else fullOff := by
  cases inv <;> simp [levelEncode, h, tickMax]

/-- Between the boundary levels no test of R138 holds. -/
theorem levelEncode_between {ticks : Half} (hpos : 0 < ticks.toNat) (hlt : ticks.toNat < 4095) (inv : Bool) :
    levelEncode ticks inv = (0#16, if inv then BitVec.ofNat 16 (4095 - ticks.toNat) else ticks) := by
  cases inv <;> simp [levelEncode, tickMax, min_eq_left hlt.le, hpos.ne', hlt.ne]

/-- Settles O32: the three ranges of the level. -/
theorem levelEncoding : Obligations.LevelEncoding := by
  intro ticks
  refine ⟨fun hfull => ⟨levelEncode_of_full hfull false, levelEncode_of_full hfull true⟩,
    fun hzero => ⟨levelEncode_of_zero hzero false, levelEncode_of_zero hzero true⟩, fun hpos hlt => ?_⟩
  have hinverted := levelEncode_between hpos hlt true
  have hoff : (levelEncode ticks true).2.toNat = 4095 - ticks.toNat := by
    rw [hinverted]
    exact Nat.mod_eq_of_lt (by omega)
  exact ⟨levelEncode_between hpos hlt false, congrArg Prod.fst hinverted, hoff, by omega, by omega⟩

/-! ## The channel commands (R132, R133) -/

theorem channelRefused_of_refuse {p : Params} {ch : Byte} (hpolicy : p.channelPolicy = .refuse) (hch : 15 < ch.toNat) :
    channelRefused p ch = true := by
  have hrange : numChannels ≤ ch.toNat := hch
  simp [channelRefused, hpolicy, hrange]

theorem channelRefused_eq_false {p : Params} {ch : Byte} (h : p.channelPolicy = .wrap8 ∨ ch.toNat ≤ 15) :
    channelRefused p ch = false := by
  rcases h with hpolicy | hch
  · simp [channelRefused, hpolicy]
  · have hrange : ¬ numChannels ≤ ch.toNat := Nat.not_le.2 (Nat.lt_succ_of_le hch)
    simp [channelRefused, hrange]

/-- The one transaction of every channel command, once it has completed (R133). -/
def pairRecord (d ch : Byte) (on off : Half) : Record := wb d (channelBase ch) (lo on) (hi on) (lo off) (hi off)

theorem State.lineRecord_writePair (s : State) (ch : Byte) (on off : Half) :
    s.lineRecord (.writeBlock (channelBase ch) (pairBytes on off)) = some (pairRecord s.addr ch on off) := rfl

theorem State.runPair_refused {s : State} {ch : Byte} (h : channelRefused s.params ch = true) (on off : Half) :
    s.runPair ch on off = .next (s.ended 0 .refused [] none) := by
  rw [State.runPair, if_pos h, State.refuse_eq_ended]

theorem State.runPair_accepted {s : State} {ch : Byte} (h : channelRefused s.params ch = false)
    (hanswers : s.answersAtLeast 1 = true) (haccepts : s.accepts 0 = true) (on off : Half) :
    s.runPair ch on off = .next (s.ended 1 .ok [pairRecord s.addr ch on off] none) := by
  rw [State.runPair, if_neg (by simp [h])]
  exact State.run_ended (State.drive_line (s.lineRecord_writePair ch on off) (fun _ => haccepts) [] []) rfl rfl hanswers

theorem State.runPair_failure {s : State} {ch : Byte} (h : channelRefused s.params ch = false)
    (hanswers : s.answersAtLeast 1 = true) (hfailure : s.reply 0 = .failure) (on off : Half) :
    s.runPair ch on off = .next (s.ended 1 .transportFailed [(pairRecord s.addr ch on off).fail] none) := by
  rw [State.runPair, if_neg (by simp [h])]
  exact State.run_ended (State.drive_line_failure (s.lineRecord_writePair ch on off) rfl hfailure [] []) rfl rfl hanswers

/-- The rule that the three channel commands share: refused, or one block write of the pair. -/
theorem State.runPair_followsRule (s : State) (ch : Byte) (on off : Half) :
    (s.params.channelPolicy = .refuse → 15 < ch.toNat →
      s.runPair ch on off = .next (s.ended 0 .refused [] none)) ∧
    (s.params.channelPolicy = .wrap8 ∨ ch.toNat ≤ 15 → s.answersAtLeast 1 = true →
      (s.accepts 0 = true →
        s.runPair ch on off = .next (s.ended 1 .ok [pairRecord s.addr ch on off] none)) ∧
      (s.reply 0 = .failure →
        s.runPair ch on off = .next (s.ended 1 .transportFailed [(pairRecord s.addr ch on off).fail] none))) := by
  refine ⟨fun hpolicy hch => ?_, fun hchannel hanswers => ?_⟩
  · exact State.runPair_refused (channelRefused_of_refuse hpolicy hch) on off
  · have hrefused := channelRefused_eq_false hchannel
    exact ⟨fun haccepts => State.runPair_accepted hrefused hanswers haccepts on off,
      fun hfailure => State.runPair_failure hrefused hanswers hfailure on off⟩

/-- Settles O33: the row of format T, and the shared rule on the raw pair. -/
theorem setticksFollowsItsRule : Obligations.SetticksFollowsItsRule :=
  ⟨encodedBy_of_row (op := 5) rfl fun _ => rfl, State.runPair_followsRule⟩

/-- Settles O34: the row of format P, and the shared rule on the pair of 0 and the mapped duty. -/
theorem setpctFollowsItsRule : Obligations.SetpctFollowsItsRule := by
  refine ⟨encodedBy_of_row (op := 6) rfl fun _ => rfl, fun s ch duty => ⟨⟨percentToOff_le duty, ?_, ?_⟩, ?_⟩⟩
  · rintro rfl
    rfl
  · rintro rfl
    rfl
  · exact s.runPair_followsRule ch 0#16 (percentToOff duty)

/-- Settles O35: the row of format L, and the shared rule on the encoded level. -/
theorem setlvlFollowsItsRule : Obligations.SetlvlFollowsItsRule :=
  ⟨encodedBy_of_row (op := 7) rfl fun _ => rfl, fun s ch ticks inv =>
    s.runPair_followsRule ch (levelEncode ticks inv).1 (levelEncode ticks inv).2⟩

end Sys2Proof.Machine

/-! RDREG and WRREG (43_register_access.md): one read, whose byte goes out on the result port only, and one write, with
no delay behind it. -/

namespace Sys2Proof.Machine

open Sys2Proof.Config

/-! ## RDREG (R170) -/

/-- The byte read is held for the result port and written to no register or latch. -/
theorem State.drive_readReg {s : State} {k : Nat} {reg v : Byte} (h : s.reply k = .success v) (trace : List Record)
    (rest : List Action) :
    (s.issued k trace).drive (.readReg reg :: rest) =
      ((s.issued (k + 1) (trace ++ [rd s.addr reg v])).setResult v).drive rest := by
  have hreply : ((s.issued k trace).setPending rest).reply 0 = .success v := (s.reply_issued k trace).trans h
  apply State.drive_of_perform_ok
  simp only [State.perform, State.fetchByte_success hreply, State.takeAnswer_record_issued]
  rfl

theorem State.drive_readReg_failure {s : State} {k : Nat} {reg : Byte} (h : s.reply k = .failure) (trace : List Record)
    (rest : List Action) :
    (s.issued k trace).drive (.readReg reg :: rest) =
      (s.issued (k + 1) (trace ++ [⟨s.addr, .read reg, .failed⟩])).finish .transportFailed := by
  have hreply : ((s.issued k trace).setPending rest).reply 0 = .failure := (s.reply_issued k trace).trans h
  apply State.drive_of_perform_error
  simp only [State.perform, State.fetchByte_failure hreply, State.takeAnswer_record_issued]

/-- The rule `State.run_ended` for a command that ends `ok` holding a result byte: the byte goes out in the report. -/
theorem State.run_ended_result {s : State} {body : List Action} {k : Nat} {trace : List Record} {v : Byte}
    (hend : (s.issued 0 []).drive body = ((s.issued k trace).setResult v).finish .ok)
    (hanswers : s.answersAtLeast k = true) : s.run body = .next (s.ended k .ok trace (some v)) := by
  have hk : (((s.issued k trace).setResult v).finish .ok).draws - s.draws = k := Nat.add_sub_cancel_left _ _
  rw [State.run, State.drive_start, hend,
    State.answered_next (s := s) (t := ((s.issued k trace).setResult v).finish .ok) (by rwa [hk]) rfl, hk]
  rfl

theorem exec_rdreg {s : State} {v : Byte} (reg : Byte) (hanswers : s.answersAtLeast 1 = true)
    (hread : s.reply 0 = .success v) :
    exec (.rdreg reg) s = .next (s.ended 1 .ok [rd s.addr reg v] (some v)) :=
  State.run_ended_result (State.drive_readReg hread [] []) hanswers

theorem exec_rdreg_failure {s : State} (reg : Byte) (hanswers : s.answersAtLeast 1 = true)
    (hfailure : s.reply 0 = .failure) :
    exec (.rdreg reg) s = .next (s.ended 1 .transportFailed [⟨s.addr, .read reg, .failed⟩] none) :=
  State.run_ended (State.drive_readReg_failure hfailure [] []) rfl rfl hanswers

/-- Settles O36: the row of format R, and the read that succeeds or fails. -/
theorem rdregFollowsItsRule : Obligations.RdregFollowsItsRule :=
  ⟨encodedBy_of_row (op := 8) rfl fun _ => rfl, fun _ reg hanswers =>
    ⟨fun _ => exec_rdreg reg hanswers, exec_rdreg_failure reg hanswers⟩⟩

/-! ## WRREG (R171) -/

theorem State.lineRecord_writeLiteral (s : State) (reg val : Byte) :
    s.lineRecord (.writeReg reg (.literal val)) = some (wr s.addr reg val) := rfl

theorem exec_wrreg {s : State} (reg val : Byte) (hanswers : s.answersAtLeast 1 = true) (haccepts : s.accepts 0 = true) :
    exec (.wrreg reg val) s = .next (s.ended 1 .ok [wr s.addr reg val] none) :=
  State.run_ended (State.drive_line (s.lineRecord_writeLiteral reg val) (fun _ => haccepts) [] []) rfl rfl hanswers

theorem exec_wrreg_failure {s : State} (reg val : Byte) (hanswers : s.answersAtLeast 1 = true)
    (hfailure : s.reply 0 = .failure) :
    exec (.wrreg reg val) s = .next (s.ended 1 .transportFailed [(wr s.addr reg val).fail] none) :=
  State.run_ended (State.drive_line_failure (s.lineRecord_writeLiteral reg val) rfl hfailure [] []) rfl rfl hanswers

/-- Settles O37: the row of format W, and the write that succeeds or fails. -/
theorem wrregFollowsItsRule : Obligations.WrregFollowsItsRule :=
  ⟨encodedBy_of_row (op := 9) rfl fun _ => rfl, fun _ reg val hanswers =>
    ⟨exec_wrreg reg val hanswers, exec_wrreg_failure reg val hanswers⟩⟩

end Sys2Proof.Machine

/-! How a command stops (60_exceptions.md): the status codes, one report for each command and none taken back, what
REFUSED leaves untouched, and the one way to be stuck. -/

namespace Sys2Proof.Machine

open Sys2Proof.Config

/-! ## Status codes (R180, R181) -/

/-- Settles O55: the three codes and, in nine pairs of statuses, that they differ. -/
theorem statusCodes : Obligations.StatusCodes := by
  refine ⟨rfl, rfl, rfl, fun a b => ?_⟩
  cases a <;> cases b <;> decide

/-! ## The history (R185) -/

theorem exec_reports {i : Instr} {s t : State} (h : exec i s = .next t) : ∃ r, t.history = r :: s.history :=
  (everyRequestCarriesAddr i s t h).imp fun _ => And.left

/-- A step waits, or it adds one report: that of the running command, of the command it runs, or of a refused word. -/
theorem step_waits_or_reports {s t : State} (h : step s = .next t) :
    (s.busy = false ∧ s.commands = [] ∧ t = s) ∨ ∃ r, t.history = r :: s.history := by
  rcases step_next h with ⟨-, k, rfl⟩ | hwaits | ⟨w, rest, -, -, ⟨i, -, hi⟩ | ⟨-, rfl⟩⟩
  · exact .inr (s.drive_ends s.pending).reported
  · exact .inl hwaits
  · exact .inr (exec_reports (s := { s with commands := rest }) hi)
  · exact .inr ⟨_, State.refuse_history _⟩

/-- Settles O40: a step that waits is one with nothing to do. -/
theorem historyIsNeverErased : Obligations.HistoryIsNeverErased := by
  intro s t h
  rcases step_waits_or_reports h with ⟨hidle, hcommands, rfl⟩ | hreport
  · exact ⟨.inl rfl, by simp [hidle, hcommands]⟩
  · exact ⟨.inr hreport, fun _ => hreport⟩

/-! ## REFUSED (R180, R184) -/

/-- Lines that run end OK or TRANSPORT_FAILED. -/
theorem State.drive_status_ne_refused {s : State} {body : List Action} {r : Report}
    (h : (s.drive body).history = r :: s.history) : r.status ≠ .refused := by
  refine State.drive_induct (P := fun u => u.history = s.history)
    (Q := fun u => ∀ r, u.history = r :: s.history → r.status ≠ .refused) body s rfl ?_ ?_ ?_ r h
  · rintro u - r h
    cases (List.cons.inj h).1
    nofun
  · intro a _ u t rest hu hp
    obtain ⟨-, -, -, -, -, hhistory, -⟩ := State.perform_ok_frame hp
    exact hhistory.trans hu
  · rintro a - u t rest - - r h
    cases (List.cons.inj h).1
    nofun

/-- Only the channel check makes a command end REFUSED. -/
theorem exec_refused {i : Instr} {s t : State} {r : Report} (h : exec i s = .next t)
    (hhistory : t.history = r :: s.history) (hstatus : r.status = .refused) : t = s.refuse := by
  rcases exec_next h with ⟨-, rfl⟩ | ⟨-, k, rfl⟩
  · rfl
  · exact absurd hstatus (State.drive_status_ne_refused (s := s.start (ruleBody i)) hhistory)

/-- An idle step that ends REFUSED has taken a word from the port and refused it, for the word or for its channel. -/
theorem step_refused {s t : State} {r : Report} (hidle : s.busy = false) (h : step s = .next t)
    (hhistory : t.history = r :: s.history) (hstatus : r.status = .refused) :
    ∃ rest, t = State.refuse { s with commands := rest } := by
  rcases step_next h with ⟨hbusy, -⟩ | ⟨-, -, rfl⟩ | ⟨w, rest, -, -, ⟨i, -, hi⟩ | ⟨-, rfl⟩⟩
  · exact absurd (hbusy.symm.trans hidle) (by decide)
  · exact absurd hhistory.symm (List.cons_ne_self r t.history)
  · exact ⟨rest, exec_refused hi hhistory hstatus⟩
  · exact ⟨rest, rfl⟩

/-- Settles O44: what `State.refuse` leaves, and the report it adds. -/
theorem refusedTouchesNothing : Obligations.RefusedTouchesNothing := by
  intro s t r hidle h hhistory hstatus
  obtain ⟨rest, rfl⟩ := step_refused hidle h hhistory hstatus
  rw [State.refuse_history] at hhistory
  cases (List.cons.inj hhistory).1
  exact ⟨rfl, rfl, rfl, rfl, rfl, rfl, rfl, rfl, rfl⟩

/-! ## How often a command asks the transport (93_implementation_defined.md item 17) -/

/-- A line that asks the transport, for a read or for a write. -/
def Action.asks : Action → Bool
  | .readMode => true
  | .readReg _ => true
  | .writeReg _ _ => true
  | .writeBlock _ _ => true
  | _ => false

theorem State.perform_ok_draws {s t : State} {a : Action} (h : s.perform a = .ok t) :
    t.draws = s.draws + if a.asks then 1 else 0 := by
  rcases State.perform_ok h with ⟨_, rfl, rfl⟩ | ⟨_, rfl, rfl⟩ | ⟨_, rfl, rfl⟩ | ⟨rfl, rfl⟩ | ⟨_, rfl, -, rfl⟩ |
    ⟨_, _, rfl, -, rfl⟩ | ⟨_, _, rfl, rfl⟩ | ⟨_, _, rfl, rfl⟩ | ⟨_, rfl, rfl⟩ <;> rfl

/-- Only a line that asks can fail. -/
theorem State.perform_error_asks {s t : State} {a : Action} (h : s.perform a = .error t) : a.asks = true := by
  obtain ⟨-, r, -, hline⟩ := State.perform_error h
  rcases hline with ⟨rfl, -⟩ | ⟨_, rfl, -⟩ | ⟨_, _, rfl, -⟩ | ⟨_, _, rfl, -⟩ <;> rfl

/-- Running lines takes at most one answer for each line that asks; fewer when a line fails. -/
theorem State.drive_draws_le (s : State) (body : List Action) :
    (s.drive body).draws ≤ s.draws + body.countP Action.asks := by
  induction body generalizing s with
  | nil => exact Nat.le_refl _
  | cons a rest ih =>
    rw [List.countP_cons]
    cases hp : (s.setPending rest).perform a with
    | ok t =>
      have hdraws : t.draws = s.draws + if a.asks then 1 else 0 := State.perform_ok_draws (s := s.setPending rest) hp
      rw [State.drive_cons_ok hp]
      have := ih t
      omega
    | error t =>
      have hdraws : t.draws = s.draws + 1 := State.perform_error_draws (s := s.setPending rest) hp
      rw [State.drive_cons_error hp, State.finish_draws, if_pos (State.perform_error_asks hp)]
      omega

/-- A command that is not refused has as many lines that ask as it makes requests when all succeed. -/
theorem countP_asks_ruleBody {p : Params} {i : Instr} (h : refusedChannel p i = false) :
    (ruleBody i).countP Action.asks = requestCount p i := by
  cases i with
  | setticks ch on off => exact (if_neg (ne_true_of_eq_false h)).symm
  | setpct ch duty => exact (if_neg (ne_true_of_eq_false h)).symm
  | setlvl ch ticks inv => exact (if_neg (ne_true_of_eq_false h)).symm
  | _ => rfl

/-! ## Stuck (log 3) -/

/-- A stuck command met a transport that answers fewer requests than the command makes. -/
theorem State.run_fault {s : State} {body : List Action} {f : Fault} (h : s.run body = .fault f) :
    ∃ n, s.silentAfter = some n ∧ n < body.countP Action.asks := by
  have hdraws : ((s.start body).drive body).draws ≤ s.draws + body.countP Action.asks :=
    State.drive_draws_le (s.start body) body
  rcases State.answered_cases s ((s.start body).drive body) with ⟨-, h'⟩ | ⟨n, -, -, h'⟩ | ⟨n, hn, hlt, -⟩
  · cases h'.symm.trans h
  · cases h'.symm.trans h
  · exact ⟨n, hn, by omega⟩

theorem State.run_of_never_silent {s : State} (h : s.silentAfter = none) (body : List Action) :
    s.run body = .next ((s.start body).drive body) := by
  simp [State.run, State.answered, h]

/-- Settles O51: a command is refused for its channel and asks nothing, or its rule's lines are run. -/
theorem commandsStopOnlyForSilence : Obligations.CommandsStopOnlyForSilence := by
  intro i s
  rw [exec_eq]
  cases hrefused : refusedChannel s.params i with
  | true => exact ⟨nofun, nofun, fun _ => ⟨_, rfl⟩⟩
  | false =>
    refine ⟨State.answered_ne_refused s _, fun f h => ?_, fun hnever => ⟨_, State.run_of_never_silent hnever _⟩⟩
    exact countP_asks_ruleBody hrefused ▸ State.run_fault h

end Sys2Proof.Machine

/-! Reset and hazards (70_reset_and_hazards.md): the records that running lines may issue and how the lines then end,
said once, and what follows from them of the reset write, PRESCALE, the delays, the host's wait and the boot premise. -/

namespace Sys2Proof.Machine

open Sys2Proof.Config

/-! ## What running lines issue -/

/-- A line that writes a register or a latch and makes no request. -/
def Action.requestsNothing : Action → Bool
  | .loadAddr _ => true
  | .loadFreq _ => true
  | .clampFreq _ => true
  | .computePresc => true
  | _ => false

/-- The line makes this request in some state; only the byte of a single-byte write depends on the state. -/
inductive Action.Requests : Action → Request → Prop
  | readMode : Requests .readMode (.read mode1)
  | readReg (reg : Byte) : Requests (.readReg reg) (.read reg)
  | writeReg (s : State) (reg : Byte) (source : ByteSource) :
    Requests (.writeReg reg source) (.write reg (s.sourceByte source))
  | writeBlock (start : Byte) (data : List Byte) :
    Requests (.writeBlock start data) (.block start (BitVec.ofNat 8 data.length) data true)
  | delay (ms : BitVec 32) : Requests (.delay ms) (.delay ms)

/-- Running these lines may end with this status after issuing these records. -/
inductive Issues : List Action → Status → List Record → Prop
  | done : Issues [] .ok []
  | silent {a : Action} {rest : List Action} {status : Status} {trace : List Record} :
    a.requestsNothing = true → Issues rest status trace → Issues (a :: rest) status trace
  | request {a : Action} {r : Record} {rest : List Action} {status : Status} {trace : List Record} :
    a.Requests r.request → Issues rest status trace → Issues (a :: rest) status (r :: trace)
  | failure {a : Action} {r : Record} {rest : List Action} :
    a.Requests r.request → Issues (a :: rest) .transportFailed [r]

theorem State.perform_ok_requests {s t : State} {a : Action} (h : s.perform a = .ok t) :
    (a.requestsNothing = true ∧ t.trace = s.trace) ∨ ∃ r, t.trace = s.trace ++ [r] ∧ a.Requests r.request := by
  rcases State.perform_ok h with ⟨_, rfl, rfl⟩ | ⟨_, rfl, rfl⟩ | ⟨_, rfl, rfl⟩ | ⟨rfl, rfl⟩ | ⟨_, rfl, -, rfl⟩ |
    ⟨_, _, rfl, -, rfl⟩ | ⟨_, _, rfl, rfl⟩ | ⟨_, _, rfl, rfl⟩ | ⟨_, rfl, rfl⟩
  · exact .inl ⟨rfl, rfl⟩ -- loadAddr
  · exact .inl ⟨rfl, rfl⟩ -- loadFreq
  · exact .inl ⟨rfl, rfl⟩ -- clampFreq
  · exact .inl ⟨rfl, rfl⟩ -- computePresc
  · exact .inr ⟨_, rfl, .readMode⟩
  · exact .inr ⟨_, rfl, .readReg _⟩
  · exact .inr ⟨_, rfl, .writeReg s _ _⟩
  · exact .inr ⟨_, rfl, .writeBlock _ _⟩
  · exact .inr ⟨_, rfl, .delay _⟩

theorem State.perform_error_requests {s t : State} {a : Action} (h : s.perform a = .error t) :
    t.history = s.history ∧ t.settleOwed = s.settleOwed ∧
      ∃ r, t.trace = s.trace ++ [r] ∧ a.Requests r.request := by
  obtain ⟨-, r, rfl, hline⟩ := State.perform_error h
  refine ⟨rfl, rfl, _, rfl, ?_⟩
  rcases hline with ⟨rfl, rfl⟩ | ⟨_, rfl, rfl⟩ | ⟨_, _, rfl, rfl⟩ | ⟨_, _, rfl, rfl⟩
  · exact .readMode
  · exact .readReg _
  · exact .writeReg s _ _
  · exact .writeBlock _ _

/-- Running lines comes to a state `u` that ends with a status: behind the trace there was stand the records that the
lines issued, and the history and the host's debt are as they were. -/
theorem State.drive_issues (s : State) (body : List Action) :
    ∃ (u : State) (status : Status) (trace : List Record), s.drive body = u.finish status ∧
      u.history = s.history ∧ u.settleOwed = s.settleOwed ∧ u.trace = s.trace ++ trace ∧ Issues body status trace := by
  induction body generalizing s with
  | nil => exact ⟨s, .ok, [], rfl, rfl, rfl, (List.append_nil _).symm, .done⟩
  | cons a rest ih =>
    cases hp : (s.setPending rest).perform a with
    | ok t =>
      rw [State.drive_cons_ok hp]
      obtain ⟨-, -, -, -, -, hhistory, howed, -⟩ := State.perform_ok_frame hp
      obtain ⟨u, status, trace, hend, huhistory, huowed, htrace, hissues⟩ := ih t
      rcases State.perform_ok_requests hp with ⟨hsilent, hsame⟩ | ⟨r, hr, hrequests⟩
      · exact ⟨u, status, trace, hend, huhistory.trans hhistory, huowed.trans howed,
          htrace.trans (congrArg (· ++ trace) hsame), .silent hsilent hissues⟩
      · refine ⟨u, status, r :: trace, hend, huhistory.trans hhistory, huowed.trans howed, ?_,
          .request hrequests hissues⟩
        rw [htrace, hr, List.append_assoc]
        rfl
    | error t =>
      obtain ⟨hhistory, howed, r, hr, hrequests⟩ := State.perform_error_requests hp
      exact ⟨t, .transportFailed, [r], State.drive_cons_error hp, hhistory, howed, hr, .failure hrequests⟩

/-- A command is refused for its channel and issues nothing, or it ends with a status and a trace that its rule's lines
may have. -/
theorem exec_issues {i : Instr} {s t : State} (h : exec i s = .next t) :
    ∃ (u : State) (status : Status) (k : Option Nat), t = { u.finish status with silentAfter := k } ∧
      u.history = s.history ∧ u.settleOwed = s.settleOwed ∧
      (refusedChannel s.params i = true ∧ status = .refused ∧ u.trace = [] ∨
        Issues (ruleBody i) status u.trace) := by
  rcases exec_next h with ⟨hrefused, rfl⟩ | ⟨-, k, rfl⟩
  · exact ⟨s.start [], .refused, _, rfl, rfl, rfl, .inl ⟨hrefused, rfl, rfl⟩⟩
  · obtain ⟨u, status, trace, hend, hhistory, howed, htrace, hissues⟩ :=
      (s.start (ruleBody i)).drive_issues (ruleBody i)
    obtain rfl : u.trace = trace := htrace
    exact ⟨u, status, k, by rw [hend], hhistory, howed, .inr hissues⟩

/-! ## The reset write and its delay (R210) -/

/-- RST is the reset lines, and INIT begins with them (40_lifecycle.md R82, R83). -/
theorem ruleBody_begins_with_reset {i : Instr} (hi : i = .rst ∨ i = .init) :
    ∃ rest, ruleBody i = resetBody ++ rest := by
  rcases hi with rfl | rfl
  · exact ⟨[], rfl⟩
  · exact ⟨setfreqBody none, rfl⟩

theorem refusedChannel_of_reset {i : Instr} (hi : i = .rst ∨ i = .init) (p : Params) : refusedChannel p i = false := by
  rcases hi with rfl | rfl <;> rfl

/-- Settles O49: an accepted reset write and the delay stand before what is left of the rule; a failed one ends it. -/
theorem resetWriteIsFollowedByDelay : Obligations.ResetWriteIsFollowedByDelay := by
  intro i s t hi h
  obtain ⟨rest, hbody⟩ := ruleBody_begins_with_reset hi
  rcases exec_next h with ⟨hrefused, -⟩ | ⟨-, k, rfl⟩
  · exact absurd ((refusedChannel_of_reset hi s.params).symm.trans hrefused) (by decide)
  rw [hbody, State.drive_start]
  cases hreply : s.reply 0 with
  | success b =>
    have haccepts : s.accepts 0 = true := State.accepts_eq_true.2 ⟨b, hreply⟩
    obtain ⟨u, status, trace, hend, hhistory, -, htrace, -⟩ := (s.issued 1 (resetTrace s.addr)).drive_issues rest
    rw [State.drive_resetBody haccepts, hend]
    exact ⟨_, trace, congrArg (_ :: ·) hhistory, .inl ⟨haccepts, htrace⟩⟩
  | failure =>
    rw [State.drive_resetBody_failure hreply]
    exact ⟨_, [], rfl, .inr ⟨rfl, rfl⟩⟩

/-! ## PRESCALE is written asleep (R211) -/

/-- A line that writes PRESCALE alone. -/
def Action.isPrescaleWrite : Action → Bool
  | .writeReg reg _ => reg == prescale
  | _ => false

/-- The line of R108 that puts the chip to sleep. -/
def Action.isSleepWrite (a : Action) : Bool := a == .writeReg mode1 .sleepMode

/-- Every line that writes PRESCALE comes right after the one that puts the chip to sleep, lines that request nothing
aside; `asleep` says whether the last request before the list is that line's. -/
def linesPrescaleAsleep (asleep : Bool) : List Action → Bool
  | [] => true
  | a :: rest => (asleep || !a.isPrescaleWrite) &&
      linesPrescaleAsleep (if a.requestsNothing then asleep else a.isSleepWrite) rest

theorem Action.Requests.isPrescaleWrite_eq {a : Action} {q : Request} (h : a.Requests q) :
    q.isPrescaleWrite = a.isPrescaleWrite := by
  cases h <;> rfl

theorem Action.Requests.requestsNothing_eq {a : Action} {q : Request} (h : a.Requests q) :
    a.requestsNothing = false := by
  cases h <;> rfl

theorem sleepMode_sets_sleep (m : Byte) : (sleepMode m).getLsbD 4 = true :=
  modeValues.1 m 4 (by decide)

theorem Action.Requests.isSleepWrite {a : Action} {q : Request} (h : a.Requests q) (ha : a.isSleepWrite = true) :
    q.isSleepWrite = true := by
  obtain rfl : a = .writeReg mode1 .sleepMode := beq_iff_eq.1 ha
  cases h with
  | writeReg s => exact sleepMode_sets_sleep s.oldMode

/-- The request of a line that may stand here may stand where as much is known of the record before. -/
theorem Action.Requests.prescaleWrite_asleep {a : Action} {q : Request} (h : a.Requests q) {asleep asleep' : Bool}
    (himp : asleep = true → asleep' = true) (ha : (asleep || !a.isPrescaleWrite) = true) :
    (asleep' || !q.isPrescaleWrite) = true := by
  rw [h.isPrescaleWrite_eq]
  exact Bool.or_eq_true_iff.2 ((Bool.or_eq_true_iff.1 ha).imp_left himp)

/-- A record may say more than its line: a write of a mode byte that happens to hold bit 4 sets sleep too. So what is
known of the record before, `asleep'`, need only follow from what the lines say. -/
theorem Issues.prescaleAsleep {body : List Action} {status : Status} {trace : List Record}
    (h : Issues body status trace) {asleep asleep' : Bool} (himp : asleep = true → asleep' = true)
    (hbody : linesPrescaleAsleep asleep body = true) : prescaleAsleep asleep' trace = true := by
  induction h generalizing asleep asleep' with
  | done => rfl
  | silent hsilent _ ih =>
    obtain ⟨-, hrest⟩ := Bool.and_eq_true_iff.1 hbody
    exact ih himp (by rwa [hsilent, if_pos rfl] at hrest)
  | request hrequests _ ih =>
    obtain ⟨hfirst, hrest⟩ := Bool.and_eq_true_iff.1 hbody
    rw [hrequests.requestsNothing_eq] at hrest
    exact Bool.and_eq_true_iff.2 ⟨hrequests.prescaleWrite_asleep himp hfirst, ih hrequests.isSleepWrite hrest⟩
  | failure hrequests =>
    obtain ⟨hfirst, -⟩ := Bool.and_eq_true_iff.1 hbody
    exact Bool.and_eq_true_iff.2 ⟨hrequests.prescaleWrite_asleep himp hfirst, rfl⟩

/-- In the rule of R108 the PRESCALE line stands right behind the sleep line, and INIT has no other PRESCALE line. -/
theorem ruleBody_prescaleAsleep {i : Instr} (hi : (∃ f, i = .setfreq f) ∨ i = .init) :
    linesPrescaleAsleep false (ruleBody i) = true := by
  rcases hi with ⟨f, rfl⟩ | rfl <;> rfl

/-- Settles O48: the lines of both rules are in this order, and so are the records of any run of them. -/
theorem prescaleWrittenOnlyAsleep : Obligations.PrescaleWrittenOnlyAsleep := by
  intro i s t hi h
  obtain ⟨u, status, k, rfl, hhistory, -, hissued⟩ := exec_issues h
  refine ⟨_, congrArg (_ :: ·) hhistory, ?_⟩
  rcases hissued with ⟨-, -, hnothing⟩ | hissues
  · simp [hnothing, prescaleAsleep]
  · exact hissues.prescaleAsleep id (ruleBody_prescaleAsleep hi)

/-! ## The host's wait (R210, log 8) -/

theorem Action.Requests.of_writeLiteral {reg val : Byte} {q : Request}
    (h : (Action.writeReg reg (.literal val)).Requests q) : q = .write reg val := by
  cases h
  rfl

/-- A WRREG issues its one write, whether it succeeds or fails. -/
theorem Issues.of_wrreg {reg val : Byte} {status : Status} {trace : List Record}
    (h : Issues (ruleBody (.wrreg reg val)) status trace) : ∃ r, trace = [r] ∧ r.request = .write reg val := by
  cases h with
  | silent hsilent => cases hsilent
  | request hrequests hrest =>
    cases hrest
    exact ⟨_, rfl, hrequests.of_writeLiteral⟩
  | failure hrequests => exact ⟨_, rfl, hrequests.of_writeLiteral⟩

/-- A write to MODE1 with bit 7 set and nothing behind it leaves the wait owed, also when the write failed. -/
theorem exec_wrreg_owes {s t : State} {val : Byte} (hval : val.getLsbD 7 = true)
    (h : exec (.wrreg 0x00#8 val) s = .next t) : t.settleOwed = true := by
  obtain ⟨u, status, k, rfl, -, -, ⟨hrefused, -⟩ | hissues⟩ := exec_issues h
  · cases hrefused
  obtain ⟨r, htrace, hr⟩ := hissues.of_wrreg
  simp [htrace, leavesSettleOwed, hr, Request.isResetTrigger, mode1, hval]

@[simp] theorem State.hostWait_nil (s : State) : s.hostWait [] = 0 := by
  simp [State.hostWait]

theorem State.hostWait_of_owed {s : State} (h : s.settleOwed = true) {trace : List Record} (htrace : trace ≠ []) :
    s.hostWait trace = 10 := by
  simp [State.hostWait, h, htrace, resetDelayMs]

theorem State.hostWait_of_not_owed {s : State} (h : s.settleOwed = false) (trace : List Record) :
    s.hostWait trace = 0 := by
  simp [State.hostWait, h]

/-- Settles O50: no line touches the debt, and the command's end settles it by whether anything was issued. -/
theorem hostWaitsAfterBareResetWrite : Obligations.HostWaitsAfterBareResetWrite := by
  refine ⟨fun s t val hval h => exec_wrreg_owes hval h, fun i s t h => ?_⟩
  obtain ⟨u, status, k, rfl, hhistory, howed, -⟩ := exec_issues h
  refine ⟨_, congrArg (_ :: ·) hhistory, fun hnothing => ?_, fun hissued hs => ?_, fun hs => ?_⟩
  · have hu : u.trace = [] := hnothing
    simp [hu, howed]
  · exact State.hostWait_of_owed (howed.trans hs) hissued
  · exact State.hostWait_of_not_owed (howed.trans hs) u.trace

/-! ## The delays of a successful command (R220, R189) -/

/-- The delay that a request is. -/
def Request.asDelay : Request → Option (BitVec 32)
  | .delay ms => some ms
  | _ => none

/-- The delay that a line asks for. -/
def Action.asDelay : Action → Option (BitVec 32)
  | .delay ms => some ms
  | _ => none

/-- The delays of a trace, in order. -/
def delaysOf (trace : List Record) : List (BitVec 32) := trace.filterMap (·.request.asDelay)

theorem Action.Requests.asDelay_eq {a : Action} {q : Request} (h : a.Requests q) : q.asDelay = a.asDelay := by
  cases h <;> rfl

theorem Action.asDelay_of_requestsNothing {a : Action} (h : a.requestsNothing = true) : a.asDelay = none := by
  cases a with
  | delay ms => cases h
  | _ => rfl

/-- Lines that all succeed wait for all their delays. -/
theorem Issues.delays {body : List Action} {status : Status} {trace : List Record} (h : Issues body status trace)
    (hok : status = .ok) : delaysOf trace = body.filterMap Action.asDelay := by
  induction h with
  | done => rfl
  | silent hsilent _ ih => rw [ih hok, List.filterMap_cons_none (Action.asDelay_of_requestsNothing hsilent)]
  | request hrequests _ ih =>
    rw [delaysOf, List.filterMap_cons, List.filterMap_cons, hrequests.asDelay_eq, ← delaysOf, ih hok]
  | failure _ => cases hok

/-- The trace of a command that ends OK has the delays of the command's rule. -/
theorem exec_delays {i : Instr} {s t : State} {r : Report} (h : exec i s = .next t)
    (hhistory : t.history = r :: s.history) (hok : r.status = .ok) :
    delaysOf r.trace = (ruleBody i).filterMap Action.asDelay := by
  obtain ⟨u, status, k, rfl, -, -, hissued⟩ := exec_issues h
  cases (List.cons.inj hhistory).1
  rcases hissued with ⟨-, hrefused, -⟩ | hissues
  · cases hrefused.symm.trans hok
  · exact hissues.delays hok

theorem Request.delayMs_eq (q : Request) : q.delayMs = (q.asDelay.map BitVec.toNat).getD 0 := by
  cases q <;> rfl

theorem Report.delayTotal_eq (r : Report) : r.delayTotal = ((delaysOf r.trace).map BitVec.toNat).sum := by
  unfold Report.delayTotal
  induction r.trace with
  | nil => rfl
  | cons x rest ih =>
    rw [List.map_cons, List.sum_cons, ih, Request.delayMs_eq, delaysOf, delaysOf, List.filterMap_cons]
    cases x.request.asDelay with
    | none => exact Nat.zero_add _
    | some ms => rfl

/-- Settles O53: the sum of the delays that stand in each rule. -/
theorem minimumDelays : Obligations.MinimumDelays := by
  intro i s t r h hhistory hok
  rw [Report.delayTotal_eq, exec_delays h hhistory hok]
  cases i <;> rfl

/-! ## The boot premise (R216, R219) -/

theorem Request.asDelay_eq_some {q : Request} {ms : BitVec 32} : q.asDelay = some ms ↔ q = .delay ms := by
  cases q <;> simp [Request.asDelay]

/-- A report counts as a configuration when it is OK and has the 5 ms delay of R108. -/
theorem Report.configured_iff {r : Report} : r.configured = true ↔ r.status = .ok ∧ 5#32 ∈ delaysOf r.trace := by
  simp [Report.configured, delaysOf, Request.asDelay_eq_some]

/-- Only the rules of SETFREQ and INIT have the 5 ms delay. -/
theorem settleDelay_mem_ruleBody (i : Instr) :
    5#32 ∈ (ruleBody i).filterMap Action.asDelay ↔ (∃ f, i = .setfreq f) ∨ i = .init := by
  cases i <;> simp [ruleBody, resetBody, setfreqBody, Action.asDelay, resetDelayMs, prescaleSettleMs]

/-- A step keeps the reports there were. -/
theorem step_keeps_booted {s t : State} (hbooted : s.booted = true) (h : step s = .next t) : t.booted = true := by
  rcases (historyIsNeverErased s t h).1 with hsame | ⟨r, hreport⟩
  · rwa [State.booted, hsame]
  · rw [State.booted, hreport, List.any_cons, Bool.or_eq_true_iff]
    exact .inr hbooted

/-- Settles O54: the 5 ms delay marks the rules of SETFREQ and INIT, and no step erases a report. -/
theorem bootedAfterSuccessfulReconfiguration : Obligations.BootedAfterSuccessfulReconfiguration := by
  refine ⟨fun i s t r h hhistory => ?_, fun s t => step_keeps_booted⟩
  rw [Report.configured_iff, ← settleDelay_mem_ruleBody]
  exact and_congr_right fun hok => by rw [exec_delays h hhistory hok]

end Sys2Proof.Machine

/-! A table word on the command port (30_encoding.md R60, log 13), and the command that a transport falling silent
leaves stuck (93_implementation_defined.md item 17, log 3). -/

namespace Sys2Proof

/-- A word of the table's numbering at the full width is the word itself. -/
@[simp] theorem tableWord_toNat (w : Word48) : tableWord 48 w.toNat = w := by
  rw [tableWord, Nat.mod_eq_of_lt w.isLt, BitVec.ofNat_toNat, BitVec.setWidth_eq]

theorem decodeTableWord_toNat {w : Word48} {i : Instr} (h : decode w = .ok i) :
    decodeTableWord 48 w.toNat = some i := by
  simp [decodeTableWord, h]

end Sys2Proof

namespace Sys2Proof.Machine

open Sys2Proof.Config

/-! ## A table word that is fetched (10_state.md R24, log 5) -/

/-- Taking a presented command from the port leaves the stream there was. -/
theorem step_present {s : State} {w : Word48} {i : Instr} (h : decode w = .ok i) :
    step (s.present w) = exec i { s with busy := false } :=
  stepRunsDecodedCommand (s.present w) w s.commands i rfl rfl h

/-- Settles O11: the table word is the word itself, which an idle PSDE takes from the port. -/
theorem fetchedTableWordRuns : Obligations.FetchedTableWordRuns := by
  intro s w i h
  rw [State.withFetchWord, tableWord_toNat]
  exact ⟨decodeTableWord_toNat h, step_present h⟩

/-! ## How many requests lines make while their requests succeed -/

/-- A line that succeeds moves on by one in the answers to come if it asks, and else leaves them. -/
theorem State.perform_ok_accepts {s t : State} {a : Action} (h : s.perform a = .ok t) (k : Nat) :
    t.accepts k = s.accepts (k + if a.asks then 1 else 0) := by
  have hreply : t.reply k = s.reply (k + if a.asks then 1 else 0) := by
    rcases State.perform_ok h with ⟨_, rfl, rfl⟩ | ⟨_, rfl, rfl⟩ | ⟨_, rfl, rfl⟩ | ⟨rfl, rfl⟩ | ⟨_, rfl, -, rfl⟩ |
      ⟨_, _, rfl, -, rfl⟩ | ⟨_, _, rfl, rfl⟩ | ⟨_, _, rfl, rfl⟩ | ⟨_, rfl, rfl⟩ <;> simp [Action.asks]
  rw [State.accepts, hreply, State.accepts]

/-- A line that fails was answered with a failure. -/
theorem State.perform_error_accepts {s t : State} {a : Action} (h : s.perform a = .error t) : s.accepts 0 = false := by
  rw [State.accepts, (State.perform_error h).1]

/-- When the first `n` requests succeed and more than `n` lines ask, running them makes request `n` as well. -/
theorem State.lt_drive_draws {s : State} {body : List Action} {n : Nat} (haccepts : ∀ j, j < n → s.accepts j = true)
    (hn : n < body.countP Action.asks) : s.draws + n < (s.drive body).draws := by
  induction body generalizing s n with
  | nil => exact absurd hn (Nat.not_lt_zero n)
  | cons a rest ih =>
    rw [List.countP_cons] at hn
    cases hp : (s.setPending rest).perform a with
    | ok t =>
      have hdraws : t.draws = s.draws + if a.asks then 1 else 0 := State.perform_ok_draws (s := s.setPending rest) hp
      have hshift : ∀ k, t.accepts k = s.accepts (k + if a.asks then 1 else 0) :=
        State.perform_ok_accepts (s := s.setPending rest) hp
      rw [State.drive_cons_ok hp]
      cases hasks : a.asks with
      | false =>
        simp only [hasks, Bool.false_eq_true, if_false, Nat.add_zero] at hdraws hshift hn
        rw [← hdraws]
        exact ih (fun j hj => (hshift j).trans (haccepts j hj)) hn
      | true =>
        simp only [hasks, if_true] at hdraws hshift hn
        cases n with
        | zero =>
          have hlater := (t.drive_ends rest).draws
          omega
        | succ n =>
          have hlater := ih (fun j hj => (hshift j).trans (haccepts (j + 1) (Nat.succ_lt_succ hj)))
            (Nat.lt_of_succ_lt_succ hn)
          omega
    | error t =>
      have hfailed : s.accepts 0 = false := State.perform_error_accepts (s := s.setPending rest) hp
      have hdraws : t.draws = s.draws + 1 := State.perform_error_draws (s := s.setPending rest) hp
      have hfirst : n = 0 := Nat.eq_zero_of_not_pos fun hpos => by simp [haccepts 0 hpos] at hfailed
      rw [State.drive_cons_error hp, State.finish_draws]
      omega

/-! ## A silent transport leaves a command stuck -/

theorem State.answered_of_silent {s t : State} {n : Nat} (hsilent : s.silentAfter = some n)
    (hn : s.draws + n < t.draws) : s.answered t = .fault .transportSilent := by
  have hmore : ¬ t.draws - s.draws ≤ n := by omega
  simp only [State.answered, hsilent, if_neg hmore]

theorem requestCount_of_refusedChannel {p : Params} {i : Instr} (h : refusedChannel p i = true) :
    requestCount p i = 0 := by
  cases i with
  | setticks ch on off => exact if_pos h
  | setpct ch duty => exact if_pos h
  | setlvl ch ticks inv => exact if_pos h
  | _ => cases h

/-- Settles O52: a command refused for its channel requests nothing; the lines of any other come to request `n`, which
the transport does not answer. -/
theorem silentTransportLeavesCommandStuck : Obligations.SilentTransportLeavesCommandStuck := by
  intro i s n hsilent haccepts hn
  rw [exec_eq]
  cases hrefused : refusedChannel s.params i with
  | true => exact absurd hn (by simp [requestCount_of_refusedChannel hrefused])
  | false =>
    rw [← countP_asks_ruleBody hrefused] at hn
    exact State.answered_of_silent hsilent (State.lt_drive_draws (s := s.start (ruleBody i)) haccepts hn)

end Sys2Proof.Machine
